-- ==== Sys2Proof/Word.lean ====
section
/-! DEFINITION. The words of the Ospalen LR4: the byte of the request link (R159, R177), and nothing else.
Counts, lengths and positions are integers, because R1 forms every product and sum exactly. -/

namespace Sys2Proof

/-- A byte of the request link, sent most significant bit first (R159). -/
abbrev Byte := BitVec 8

end Sys2Proof
end

