-- ==== Sys2Proof/Config.lean ====
section
/-! DEFINITION. What is fixed for every Ospalen LR4: the depths of its stores and the limits of its counters; and the one
free value, which no statement may evaluate. -/

namespace Sys2Proof.Config

/-- Depth of a channel's count history (R15). -/
def historyDepth : Nat := 33

/-- Entries of a channel's velocity ring (R14). -/
def ringDepth : Nat := 16

/-- Positions in the traverse controller's velocity ring (R98). -/
def positionRingDepth : Nat := 17

/-- Edges the latch list holds (R112, R114). -/
def latchDepth : Nat := 64

/-- Records the line table holds (R72). -/
def tableDepth : Nat := 2048

/-- Bytes of a transaction that the receive buffer keeps (R160). -/
def keptBytes : Nat := 99

/-- Greatest payload length of a request frame (R162, R178). -/
def maxPayload : Nat := 96

/-- The count range: |Q| is at most 2^39 - 1 (R13). -/
def qMax : Int := 2 ^ 39 - 1

/-- The origin range: |O| is at most 8 times the count range (R16). -/
def originMax : Int := 8 * (2 ^ 39 - 1)

/-- The limit of a registered position (R69). -/
def positionMax : Int := 2 ^ 47 - 1

/-- The limit of a nominal position (R71). -/
def nominalMax : Int := 2 ^ 46

/-- The greatest index, in ppb (R49). -/
def nuMax : Int := 400000

/-- A free value (entry 37): how many core clocks after the sample instant of the latest conversion a completion falls, by the
number of conversions issued. Sample instants lie 8 core clocks apart (R2), and the commands do not say where between two of
them a completion comes. -/
opaque completionPhase : Nat → Fin 8

end Sys2Proof.Config
end

