-- ==== Sys2Proof/Syntax.lean ====
section
/-! DEFINITION. The commands of the Ospalen LR4: one constructor of `Instr` for each row of spec/opcode_table.json.
A request command carries the fields of its payload, each at the width it has on the link (R179, R180):
what a field means, and which of its values are out of range, is the owning rule's business. -/

namespace Sys2Proof

/-- One sample of one channel: the sample number, the 14-bit sine and cosine samples and the over-range level (R3). -/
structure SampleIn where
  ch : Fin 4
  k : Nat
  sin : BitVec 14
  cos : BitVec 14
  ovr : Bool
deriving DecidableEq, Repr

/-- A transaction as the port keeps it: the bytes kept, the count of whole bytes, and the bits of a last byte that was
not finished (R160). -/
structure Frame where
  kept : List Byte
  count : Nat
  tail : Nat
deriving DecidableEq, Repr

/-- The reasons of LINK_FAULT (R145, R183). -/
inductive LinkReason where
  | overrun
  | crc
  | length
deriving DecidableEq, Repr

/-- SET_CHANNEL (R21, R179): `unlisted` is bit 7 of the presence flags. -/
structure SetChannelReq where
  ch : Byte
  role : Option Byte
  sense : Option Byte
  passK : Option Byte
  lambda : Option (BitVec 32)
  datum : Option (BitVec 32)
  source : Option Byte
  step : Option (BitVec 16)
  unlisted : BitVec 1
deriving DecidableEq, Repr

/-- SET_QUADRATURE (R7, R179). -/
structure SetQuadratureReq where
  ch : Byte
  offS : BitVec 16
  offC : BitVec 16
  g : BitVec 16
  hs : BitVec 16
  p : BitVec 16
deriving DecidableEq, Repr

/-- SET_MONITOR (R26, R179): `unlisted` is bits 9 to 15 of the presence flags. -/
structure SetMonitorReq where
  ch : Byte
  rLow : Option (BitVec 16)
  rHyst : Option (BitVec 16)
  rHigh : Option (BitVec 16)
  nd : Option Byte
  nr : Option Byte
  tShort : Option (BitVec 16)
  tSettle : Option Byte
  tol : Option (BitVec 16)
  limit : Option (BitVec 16)
  unlisted : BitVec 7
deriving DecidableEq, Repr

/-- SET_COMPENSATION (R48, R179): `unlisted` is bits 11 to 15 of the presence flags. -/
structure SetCompensationReq where
  source : Option Byte
  nuFixed : Option (BitVec 32)
  a : Option (BitVec 32)
  b : Option (BitVec 16)
  ageLimit : Option (BitVec 16)
  lt : Option (BitVec 32)
  policy : Option Byte
  sNu : Option (BitVec 16)
  sT : Option (BitVec 16)
  rb : Option (BitVec 32)
  alpha : Option (BitVec 16)
  unlisted : BitVec 5
deriving DecidableEq, Repr

/-- SET_DETECTOR (R109, R179): `unlisted` is bits 6 and 7 of the presence flags. -/
structure SetDetectorReq where
  mode : Option Byte
  filter : Option Byte
  delay : Option Byte
  wMin : Option (BitVec 32)
  wMax : Option (BitVec 32)
  missLimit : Option Byte
  unlisted : BitVec 2
deriving DecidableEq, Repr

/-- SET_TRAVERSE (R97, R179): `unlisted` is bits 4 to 7 of the presence flags. -/
structure SetTraverseReq where
  sLo : Option (BitVec 48)
  sHi : Option (BitVec 48)
  vStart : Option (BitVec 32)
  vRev : Option (BitVec 32)
  unlisted : BitVec 4
deriving DecidableEq, Repr

/-- SET_ATTENTION (R147, R179): `levels` and `actions` hold one entry for each of the sixteen sources, `none` where the
mask bit is clear; `unlisted` is bits 1 to 7 of the flag byte. -/
structure SetAttentionReq where
  threshold : Option Byte
  levels : List (Option Byte)
  actions : List (Option Byte)
  unlisted : BitVec 7
deriving DecidableEq, Repr

/-- PUT_ENVIRONMENT (R54, R180): `unlisted` is bits 4 to 7 of the flag byte. -/
structure PutEnvironmentReq where
  tAir : Option (BitVec 32)
  tScale : Option (BitVec 32)
  p : Option (BitVec 32)
  e : Option (BitVec 32)
  unlisted : BitVec 4
deriving DecidableEq, Repr

/-- INSERT_RECORD (R80, R180). -/
structure InsertReq where
  label : BitVec 16
  n : BitVec 48
  w : BitVec 32
  quotaF : BitVec 16
  quotaB : BitVec 16
  state : Byte
deriving DecidableEq, Repr

/-- CHANGE_RECORD (R82, R180): `unlisted` is bits 4 to 7 of the flag byte. -/
structure ChangeReq where
  label : BitVec 16
  n : Option (BitVec 48)
  w : Option (BitVec 32)
  quotaF : Option (BitVec 16)
  quotaB : Option (BitVec 16)
  unlisted : BitVec 4
deriving DecidableEq, Repr

/-- The commands, in the order of spec/opcode_table.json. -/
inductive Instr where
  | powerOn
  | rstnAssert
  | rstnRelease
  | conversion
  | sampleCounted (x : SampleIn)
  | bridgeCheck (x : SampleIn)
  | coastTimeout (x : SampleIn)
  | settleComplete (x : SampleIn)
  | saturationSet (x : SampleIn)
  | saturationClear (x : SampleIn)
  | probeComplete (x : SampleIn)
  | update
  | envStaleCondition
  /-- LSTB took `level` at core clock `t` and kept it for `held` core clocks (R110). -/
  | edgeAccept (level : Bool) (t held : Nat)
  | latchComplete
  | alignedSample
  /-- A transaction of `bits` bits, fewer than 8 (R159). -/
  | emptyTransaction (bits : Nat)
  /-- A transaction whose first byte is nonzero: its whole bytes and the bits of an unfinished byte (R159, R160). -/
  | requestFrame (bytes : List Byte) (tail : Nat)
  /-- A transaction whose first byte is 00h, with `n` whole bytes clocked after it (R166). -/
  | fetch (n : Nat)
  | frameError
  | unknown
  | setChannel (q : SetChannelReq)
  | setQuadrature (q : SetQuadratureReq)
  | setMonitor (q : SetMonitorReq)
  | setCompensation (q : SetCompensationReq)
  | setDetector (q : SetDetectorReq)
  | setTraverse (q : SetTraverseReq)
  | setAttention (q : SetAttentionReq)
  | channelOn (ch : Byte)
  | channelOff (ch : Byte)
  | preset (ch : Byte) (value : BitVec 48)
  | home
  | putEnvironment (q : PutEnvironmentReq)
  | anchorTracker (nu : Option (BitVec 32)) (unlisted : BitVec 7)
  | startPlan (count : BitVec 16)
  | stopPlan
  | endPass
  | probe (ch k : Byte)
  | insertRecord (q : InsertReq)
  | changeRecord (q : ChangeReq)
  | retireRecord (label : BitVec 16)
  | setRecordState (label : BitVec 16) (state : Byte)
  | clearResults (label : BitVec 16) (unlisted : BitVec 7)
  | clearResultsAll (unlisted : BitVec 7)
  | readRecord (label : BitVec 16)
  | findPosition (p : BitVec 48)
  | seek (p : BitVec 48)
  | readNext (filter : Byte)
  | readResult (label : BitVec 16)
  | readInterval (a b : BitVec 16)
  | readChannel (ch : Byte)
  | readCompensation
  | readTraverse
  | readProbe
  | readAttention
  | acknowledge (set : BitVec 16)
  | resetPart
  | csnSeenHigh
deriving DecidableEq, Repr

end Sys2Proof
end

