-- ==== Sys2Proof/WellFormed.lean ====
section
/-! DEFINITION. The checks a command meets by its form: which of its terms stand for something that can occur. -/

namespace Sys2Proof

/-- A request frame's transaction has a nonzero first byte and fewer than 8 bits of an unfinished byte (R159, R160). -/
def requestFrameOk (bytes : List Byte) (tail : Nat) : Bool :=
  (match bytes with
    | [] => false
    | b :: _ => b != 0) && decide (tail < 8)

/-- A command is well formed: an empty transaction has fewer than 8 bits (R159), a request frame has the form above, and
SET_ATTENTION holds one entry for each of the sixteen sources (R179). Every other term stands for a command. -/
def Instr.wellFormed : Instr → Bool
  | .powerOn => true
  | .rstnAssert => true
  | .rstnRelease => true
  | .conversion => true
  | .sampleCounted _ => true
  | .bridgeCheck _ => true
  | .coastTimeout _ => true
  | .settleComplete _ => true
  | .saturationSet _ => true
  | .saturationClear _ => true
  | .probeComplete _ => true
  | .update => true
  | .envStaleCondition => true
  | .edgeAccept _ _ _ => true
  | .latchComplete => true
  | .alignedSample => true
  | .emptyTransaction bits => decide (bits < 8)
  | .requestFrame bytes tail => requestFrameOk bytes tail
  | .fetch _ => true
  | .frameError => true
  | .unknown => true
  | .setChannel _ => true
  | .setQuadrature _ => true
  | .setMonitor _ => true
  | .setCompensation _ => true
  | .setDetector _ => true
  | .setTraverse _ => true
  | .setAttention q => decide (q.levels.length = 16) && decide (q.actions.length = 16)
  | .channelOn _ => true
  | .channelOff _ => true
  | .preset _ _ => true
  | .home => true
  | .putEnvironment _ => true
  | .anchorTracker _ _ => true
  | .startPlan _ => true
  | .stopPlan => true
  | .endPass => true
  | .probe _ _ => true
  | .insertRecord _ => true
  | .changeRecord _ => true
  | .retireRecord _ => true
  | .setRecordState _ _ => true
  | .clearResults _ _ => true
  | .clearResultsAll _ => true
  | .readRecord _ => true
  | .findPosition _ => true
  | .seek _ => true
  | .readNext _ => true
  | .readResult _ => true
  | .readInterval _ _ => true
  | .readChannel _ => true
  | .readCompensation => true
  | .readTraverse => true
  | .readProbe => true
  | .readAttention => true
  | .acknowledge _ => true
  | .resetPart => true
  | .csnSeenHigh => true

/-- The 35 requests of the link (R178); CLEAR_RESULTS has two commands, one with a label and one with the mark ALL. The other
commands are events. -/
def Instr.isRequest : Instr → Bool
  | .powerOn => false
  | .rstnAssert => false
  | .rstnRelease => false
  | .conversion => false
  | .sampleCounted _ => false
  | .bridgeCheck _ => false
  | .coastTimeout _ => false
  | .settleComplete _ => false
  | .saturationSet _ => false
  | .saturationClear _ => false
  | .probeComplete _ => false
  | .update => false
  | .envStaleCondition => false
  | .edgeAccept _ _ _ => false
  | .latchComplete => false
  | .alignedSample => false
  | .emptyTransaction _ => false
  | .requestFrame _ _ => false
  | .fetch _ => false
  | .frameError => false
  | .unknown => false
  | .setChannel _ => true
  | .setQuadrature _ => true
  | .setMonitor _ => true
  | .setCompensation _ => true
  | .setDetector _ => true
  | .setTraverse _ => true
  | .setAttention _ => true
  | .channelOn _ => true
  | .channelOff _ => true
  | .preset _ _ => true
  | .home => true
  | .putEnvironment _ => true
  | .anchorTracker _ _ => true
  | .startPlan _ => true
  | .stopPlan => true
  | .endPass => true
  | .probe _ _ => true
  | .insertRecord _ => true
  | .changeRecord _ => true
  | .retireRecord _ => true
  | .setRecordState _ _ => true
  | .clearResults _ _ => true
  | .clearResultsAll _ => true
  | .readRecord _ => true
  | .findPosition _ => true
  | .seek _ => true
  | .readNext _ => true
  | .readResult _ => true
  | .readInterval _ _ => true
  | .readChannel _ => true
  | .readCompensation => true
  | .readTraverse => true
  | .readProbe => true
  | .readAttention => true
  | .acknowledge _ => true
  | .resetPart => true
  | .csnSeenHigh => false

end Sys2Proof
end

