-- ==== Sys2Proof/Decode.lean ====
section
/-! DEFINITION. The request link's coding: numbers in little-endian bytes (R177), the CRC (R164), the checks of a frame
(R162, R163), the payload layouts (R179, R180) in both directions, and the command that completes a frame in process.
No row of spec/opcode_table.json has bits, so `decodeTableWord` answers none. -/

namespace Sys2Proof

/-- The command a word spells by the table's bits: no row of the table gives bits (spec/98_reader.md). -/
def decodeTableWord (_nbits _w : Nat) : Option Instr := none

/-! ### Numbers on the link (R177) -/

/-- The `n` least significant bytes of a number, least significant first. -/
def toLE : Nat → Nat → List Byte
  | 0, _ => []
  | n + 1, v => BitVec.ofNat 8 v :: toLE n (v / 256)

/-- The number that bytes spell, least significant first. -/
def ofLE : List Byte → Nat
  | [] => 0
  | b :: bs => b.toNat + 256 * ofLE bs

/-- Read `n` bytes as a field of `w` bits, with the bytes after it; none where fewer than `n` bytes are left. -/
def readField (n w : Nat) (bs : List Byte) : Option (BitVec w × List Byte) :=
  if n ≤ bs.length then some (BitVec.ofNat w (ofLE (bs.take n)), bs.drop n) else none

/-- Read a field that a presence flag announces; an absent field takes no bytes. -/
def readOpt (present : Bool) (n w : Nat) (bs : List Byte) : Option (Option (BitVec w) × List Byte) :=
  if present then (readField n w bs).map fun r => (some r.1, r.2) else some (none, bs)

/-- The bytes of a field. -/
def putField (n : Nat) {w : Nat} (v : BitVec w) : List Byte := toLE n v.toNat

/-- The bytes of an optional field: none when it is absent. -/
def putOpt (n : Nat) {w : Nat} (v : Option (BitVec w)) : List Byte :=
  match v with
  | none => []
  | some v => putField n v

/-- The number whose bits are a list of flags, bit 0 first. -/
def bitsToNat : List Bool → Nat
  | [] => 0
  | b :: bs => b.toNat + 2 * bitsToNat bs

/-- A flag byte or mask: the listed flags from bit 0 up, the unlisted bits above them. -/
def packFlags (w : Nat) (listed : List Bool) {m : Nat} (unlisted : BitVec m) : BitVec w :=
  BitVec.ofNat w (bitsToNat listed + 2 ^ listed.length * unlisted.toNat)

/-- The unlisted bits of a flag byte: those from bit `n` up. -/
def unlistedBits {w : Nat} (n m : Nat) (flags : BitVec w) : BitVec m :=
  BitVec.ofNat m (flags.toNat / 2 ^ n)

/-- The sixteen bits of a mask, bit 0 first. -/
def maskBits (mask : BitVec 16) : List Bool := (List.range 16).map fun i => mask.getLsbD i

/-- One byte for each set bit of a mask, in ascending order (R179, SET_ATTENTION). -/
def readMasked : List Bool → List Byte → Option (List (Option Byte) × List Byte)
  | [], bs => some ([], bs)
  | false :: ms, bs => (readMasked ms bs).map fun r => (none :: r.1, r.2)
  | true :: _, [] => none
  | true :: ms, b :: bs => (readMasked ms bs).map fun r => (some b :: r.1, r.2)

/-- The bytes of the present items of a masked list. -/
def putMasked (items : List (Option Byte)) : List Byte := items.filterMap id

/-! ### The CRC (R164) -/

/-- One step of the check register. -/
def crcStep (reg : Byte) : Byte :=
  if reg.msb then (reg <<< 1) ^^^ 0x2F#8 else reg <<< 1

/-- The register stepped `n` times. -/
def crcSteps : Nat → Byte → Byte
  | 0, reg => reg
  | n + 1, reg => crcSteps n (crcStep reg)

/-- The register after one byte. -/
def crcByte (reg b : Byte) : Byte := crcSteps 8 (reg ^^^ b)

/-- The CRC of a list of bytes, from FFh. -/
def crc (bs : List Byte) : Byte := bs.foldl crcByte 0xFF#8

/-! ### Payloads (R179, R180) -/

/-- What the checks of R163 make of a code and a payload. -/
inductive Parsed where
  /-- The code names no request. -/
  | unknown
  /-- The payload's length is not the one its layout gives. -/
  | badLength
  /-- The request the frame carries. -/
  | request (i : Instr)
deriving DecidableEq, Repr

/-- A layout is met when it takes the payload's bytes and no byte is left (R163 check 2). -/
def whole (r : Option (Instr × List Byte)) : Parsed :=
  match r with
  | some (i, []) => .request i
  | _ => .badLength

/-- SET_CHANNEL's layout (R179). -/
def parseSetChannel (bs : List Byte) : Option (Instr × List Byte) := do
  let (ch, bs) ← readField 1 8 bs
  let (f, bs) ← readField 1 8 bs
  let (role, bs) ← readOpt (f.getLsbD 0) 1 8 bs
  let (sense, bs) ← readOpt (f.getLsbD 1) 1 8 bs
  let (passK, bs) ← readOpt (f.getLsbD 2) 1 8 bs
  let (lambda, bs) ← readOpt (f.getLsbD 3) 4 32 bs
  let (datum, bs) ← readOpt (f.getLsbD 4) 4 32 bs
  let (source, bs) ← readOpt (f.getLsbD 5) 1 8 bs
  let (step, bs) ← readOpt (f.getLsbD 6) 2 16 bs
  return (.setChannel ⟨ch, role, sense, passK, lambda, datum, source, step, unlistedBits 7 1 f⟩, bs)

/-- SET_QUADRATURE's layout (R179). -/
def parseSetQuadrature (bs : List Byte) : Option (Instr × List Byte) := do
  let (ch, bs) ← readField 1 8 bs
  let (offS, bs) ← readField 2 16 bs
  let (offC, bs) ← readField 2 16 bs
  let (g, bs) ← readField 2 16 bs
  let (hs, bs) ← readField 2 16 bs
  let (p, bs) ← readField 2 16 bs
  return (.setQuadrature ⟨ch, offS, offC, g, hs, p⟩, bs)

/-- SET_MONITOR's layout (R179). -/
def parseSetMonitor (bs : List Byte) : Option (Instr × List Byte) := do
  let (ch, bs) ← readField 1 8 bs
  let (f, bs) ← readField 2 16 bs
  let (rLow, bs) ← readOpt (f.getLsbD 0) 2 16 bs
  let (rHyst, bs) ← readOpt (f.getLsbD 1) 2 16 bs
  let (rHigh, bs) ← readOpt (f.getLsbD 2) 2 16 bs
  let (nd, bs) ← readOpt (f.getLsbD 3) 1 8 bs
  let (nr, bs) ← readOpt (f.getLsbD 4) 1 8 bs
  let (tShort, bs) ← readOpt (f.getLsbD 5) 2 16 bs
  let (tSettle, bs) ← readOpt (f.getLsbD 6) 1 8 bs
  let (tol, bs) ← readOpt (f.getLsbD 7) 2 16 bs
  let (limit, bs) ← readOpt (f.getLsbD 8) 2 16 bs
  return (.setMonitor ⟨ch, rLow, rHyst, rHigh, nd, nr, tShort, tSettle, tol, limit, unlistedBits 9 7 f⟩, bs)

/-- SET_COMPENSATION's layout (R179). -/
def parseSetCompensation (bs : List Byte) : Option (Instr × List Byte) := do
  let (f, bs) ← readField 2 16 bs
  let (source, bs) ← readOpt (f.getLsbD 0) 1 8 bs
  let (nuFixed, bs) ← readOpt (f.getLsbD 1) 4 32 bs
  let (a, bs) ← readOpt (f.getLsbD 2) 4 32 bs
  let (b, bs) ← readOpt (f.getLsbD 3) 2 16 bs
  let (ageLimit, bs) ← readOpt (f.getLsbD 4) 2 16 bs
  let (lt, bs) ← readOpt (f.getLsbD 5) 4 32 bs
  let (policy, bs) ← readOpt (f.getLsbD 6) 1 8 bs
  let (sNu, bs) ← readOpt (f.getLsbD 7) 2 16 bs
  let (sT, bs) ← readOpt (f.getLsbD 8) 2 16 bs
  let (rb, bs) ← readOpt (f.getLsbD 9) 4 32 bs
  let (alpha, bs) ← readOpt (f.getLsbD 10) 2 16 bs
  return (.setCompensation
    ⟨source, nuFixed, a, b, ageLimit, lt, policy, sNu, sT, rb, alpha, unlistedBits 11 5 f⟩, bs)

/-- SET_DETECTOR's layout (R179). -/
def parseSetDetector (bs : List Byte) : Option (Instr × List Byte) := do
  let (f, bs) ← readField 1 8 bs
  let (mode, bs) ← readOpt (f.getLsbD 0) 1 8 bs
  let (filter, bs) ← readOpt (f.getLsbD 1) 1 8 bs
  let (delay, bs) ← readOpt (f.getLsbD 2) 1 8 bs
  let (wMin, bs) ← readOpt (f.getLsbD 3) 4 32 bs
  let (wMax, bs) ← readOpt (f.getLsbD 4) 4 32 bs
  let (missLimit, bs) ← readOpt (f.getLsbD 5) 1 8 bs
  return (.setDetector ⟨mode, filter, delay, wMin, wMax, missLimit, unlistedBits 6 2 f⟩, bs)

/-- SET_TRAVERSE's layout (R179). -/
def parseSetTraverse (bs : List Byte) : Option (Instr × List Byte) := do
  let (f, bs) ← readField 1 8 bs
  let (sLo, bs) ← readOpt (f.getLsbD 0) 6 48 bs
  let (sHi, bs) ← readOpt (f.getLsbD 1) 6 48 bs
  let (vStart, bs) ← readOpt (f.getLsbD 2) 4 32 bs
  let (vRev, bs) ← readOpt (f.getLsbD 3) 4 32 bs
  return (.setTraverse ⟨sLo, sHi, vStart, vRev, unlistedBits 4 4 f⟩, bs)

/-- SET_ATTENTION's layout (R179): the masks are presence flags. -/
def parseSetAttention (bs : List Byte) : Option (Instr × List Byte) := do
  let (f, bs) ← readField 1 8 bs
  let (levelMask, bs) ← readField 2 16 bs
  let (actionMask, bs) ← readField 2 16 bs
  let (threshold, bs) ← readOpt (f.getLsbD 0) 1 8 bs
  let (levels, bs) ← readMasked (maskBits levelMask) bs
  let (actions, bs) ← readMasked (maskBits actionMask) bs
  return (.setAttention ⟨threshold, levels, actions, unlistedBits 1 7 f⟩, bs)

/-- PUT_ENVIRONMENT's layout (R180). -/
def parsePutEnvironment (bs : List Byte) : Option (Instr × List Byte) := do
  let (f, bs) ← readField 1 8 bs
  let (tAir, bs) ← readOpt (f.getLsbD 0) 4 32 bs
  let (tScale, bs) ← readOpt (f.getLsbD 1) 4 32 bs
  let (p, bs) ← readOpt (f.getLsbD 2) 4 32 bs
  let (e, bs) ← readOpt (f.getLsbD 3) 4 32 bs
  return (.putEnvironment ⟨tAir, tScale, p, e, unlistedBits 4 4 f⟩, bs)

/-- ANCHOR_TRACKER's layout (R180). -/
def parseAnchorTracker (bs : List Byte) : Option (Instr × List Byte) := do
  let (f, bs) ← readField 1 8 bs
  let (nu, bs) ← readOpt (f.getLsbD 0) 4 32 bs
  return (.anchorTracker nu (unlistedBits 1 7 f), bs)

/-- INSERT_RECORD's layout (R180). -/
def parseInsertRecord (bs : List Byte) : Option (Instr × List Byte) := do
  let (label, bs) ← readField 2 16 bs
  let (n, bs) ← readField 6 48 bs
  let (w, bs) ← readField 4 32 bs
  let (quotaF, bs) ← readField 2 16 bs
  let (quotaB, bs) ← readField 2 16 bs
  let (state, bs) ← readField 1 8 bs
  return (.insertRecord ⟨label, n, w, quotaF, quotaB, state⟩, bs)

/-- CHANGE_RECORD's layout (R180). -/
def parseChangeRecord (bs : List Byte) : Option (Instr × List Byte) := do
  let (label, bs) ← readField 2 16 bs
  let (f, bs) ← readField 1 8 bs
  let (n, bs) ← readOpt (f.getLsbD 0) 6 48 bs
  let (w, bs) ← readOpt (f.getLsbD 1) 4 32 bs
  let (quotaF, bs) ← readOpt (f.getLsbD 2) 2 16 bs
  let (quotaB, bs) ← readOpt (f.getLsbD 3) 2 16 bs
  return (.changeRecord ⟨label, n, w, quotaF, quotaB, unlistedBits 4 4 f⟩, bs)

/-- CLEAR_RESULTS's layout (R180): a clear bit 0 is the mark ALL. -/
def parseClearResults (bs : List Byte) : Option (Instr × List Byte) := do
  let (f, bs) ← readField 1 8 bs
  let (label, bs) ← readOpt (f.getLsbD 0) 2 16 bs
  return (match label with
    | some label => .clearResults label (unlistedBits 1 7 f)
    | none => .clearResultsAll (unlistedBits 1 7 f), bs)

/-- A payload of one field (R180). -/
def parseOne (n w : Nat) (mk : BitVec w → Instr) (bs : List Byte) : Option (Instr × List Byte) :=
  (readField n w bs).map fun r => (mk r.1, r.2)

/-- A payload of two fields (R180). -/
def parseTwo (n w n' w' : Nat) (mk : BitVec w → BitVec w' → Instr) (bs : List Byte) :
    Option (Instr × List Byte) := do
  let (a, bs) ← readField n w bs
  let (b, bs) ← readField n' w' bs
  return (mk a b, bs)

/-- The request that a code and a payload carry (R163 checks 1 and 2, R178 to R180). -/
def parsePayload (code : Byte) (bs : List Byte) : Parsed :=
  match code.toNat with
  | 0x01 => whole (parseSetChannel bs)
  | 0x02 => whole (parseSetQuadrature bs)
  | 0x03 => whole (parseSetMonitor bs)
  | 0x04 => whole (parseSetCompensation bs)
  | 0x05 => whole (parseSetDetector bs)
  | 0x06 => whole (parseSetTraverse bs)
  | 0x07 => whole (parseSetAttention bs)
  | 0x10 => whole (parseOne 1 8 .channelOn bs)
  | 0x11 => whole (parseOne 1 8 .channelOff bs)
  | 0x12 => whole (parseTwo 1 8 6 48 .preset bs)
  | 0x13 => whole (some (.home, bs))
  | 0x14 => whole (parsePutEnvironment bs)
  | 0x15 => whole (parseAnchorTracker bs)
  | 0x16 => whole (parseOne 2 16 .startPlan bs)
  | 0x17 => whole (some (.stopPlan, bs))
  | 0x18 => whole (parseInsertRecord bs)
  | 0x19 => whole (parseChangeRecord bs)
  | 0x1A => whole (parseOne 2 16 .retireRecord bs)
  | 0x1B => whole (parseTwo 2 16 1 8 .setRecordState bs)
  | 0x1C => whole (parseClearResults bs)
  | 0x1D => whole (some (.endPass, bs))
  | 0x1E => whole (parseTwo 1 8 1 8 .probe bs)
  | 0x20 => whole (parseOne 2 16 .readRecord bs)
  | 0x21 => whole (parseOne 6 48 .findPosition bs)
  | 0x22 => whole (parseOne 6 48 .seek bs)
  | 0x23 => whole (parseOne 1 8 .readNext bs)
  | 0x24 => whole (parseOne 2 16 .readResult bs)
  | 0x25 => whole (parseTwo 2 16 2 16 .readInterval bs)
  | 0x28 => whole (parseOne 1 8 .readChannel bs)
  | 0x29 => whole (some (.readCompensation, bs))
  | 0x2A => whole (some (.readTraverse, bs))
  | 0x2B => whole (some (.readProbe, bs))
  | 0x2C => whole (some (.readAttention, bs))
  | 0x2D => whole (parseOne 2 16 .acknowledge bs)
  | 0x3F => whole (some (.resetPart, bs))
  | _ => .unknown

/-! ### Frames (R160, R162, R163) -/

/-- The receive buffer's view of a transaction: the first 99 bytes and the counts (R160). -/
def frameOf (bytes : List Byte) (tail : Nat) : Frame := ⟨bytes.take Config.keptBytes, bytes.length, tail⟩

/-- The frame's first byte, its code. -/
def Frame.code (f : Frame) : Byte := f.kept.headD 0

/-- The frame's length byte. -/
def Frame.lengthByte (f : Frame) : Nat := (f.kept.getD 1 0).toNat

/-- The payload bytes. -/
def Frame.payload (f : Frame) : List Byte := (f.kept.drop 2).take f.lengthByte

/-- The last byte of a frame of the length its length byte gives. -/
def Frame.crcByte (f : Frame) : Byte := f.kept.getD (f.lengthByte + 2) 0

/-- Malformed in length (R162). -/
def Frame.badLength (f : Frame) : Bool :=
  decide (f.tail ≠ 0) || decide (f.count < 3) || decide (Config.maxPayload < f.lengthByte) ||
    decide (f.count ≠ f.lengthByte + 3)

/-- The last byte differs from the CRC of the code, the length and the payload (R162). -/
def Frame.badCrc (f : Frame) : Bool :=
  crc (f.code :: BitVec.ofNat 8 f.lengthByte :: f.payload) != f.crcByte

/-- The command that completes a frame in process: the checks of R162 and R163 in their order. -/
def completionOf (f : Frame) : Instr :=
  if f.badLength then .frameError
  else if f.badCrc then .frameError
  else match parsePayload f.code f.payload with
    | .unknown => .unknown
    | .badLength => .frameError
    | .request i => i

/-- The reason of the LINK_FAULT that a frame error raises (R162, R163). -/
def frameErrorReason (f : Frame) : LinkReason :=
  if f.badLength then .length else if f.badCrc then .crc else .length

/-! ### The encoder: the frame that carries a request (R178 to R180) -/

/-- Code and payload of a request; none for a command that is no request. -/
def encodePayload : Instr → Option (Byte × List Byte)
  | .setChannel q => some (0x01#8,
      putField 1 q.ch ++ (putField 1 (packFlags 8 [q.role.isSome, q.sense.isSome, q.passK.isSome, q.lambda.isSome,
        q.datum.isSome, q.source.isSome, q.step.isSome] q.unlisted) ++ (putOpt 1 q.role ++ (putOpt 1 q.sense ++
      (putOpt 1 q.passK ++ (putOpt 4 q.lambda ++ (putOpt 4 q.datum ++ (putOpt 1 q.source ++ putOpt 2 q.step))))))))
  | .setQuadrature q => some (0x02#8,
      putField 1 q.ch ++ (putField 2 q.offS ++ (putField 2 q.offC ++ (putField 2 q.g ++ (putField 2 q.hs ++
        putField 2 q.p)))))
  | .setMonitor q => some (0x03#8,
      putField 1 q.ch ++ (putField 2 (packFlags 16 [q.rLow.isSome, q.rHyst.isSome, q.rHigh.isSome, q.nd.isSome,
        q.nr.isSome, q.tShort.isSome, q.tSettle.isSome, q.tol.isSome, q.limit.isSome] q.unlisted) ++
      (putOpt 2 q.rLow ++ (putOpt 2 q.rHyst ++ (putOpt 2 q.rHigh ++ (putOpt 1 q.nd ++ (putOpt 1 q.nr ++
      (putOpt 2 q.tShort ++ (putOpt 1 q.tSettle ++ (putOpt 2 q.tol ++ putOpt 2 q.limit))))))))))
  | .setCompensation q => some (0x04#8,
      putField 2 (packFlags 16 [q.source.isSome, q.nuFixed.isSome, q.a.isSome, q.b.isSome, q.ageLimit.isSome,
        q.lt.isSome, q.policy.isSome, q.sNu.isSome, q.sT.isSome, q.rb.isSome, q.alpha.isSome] q.unlisted) ++
      (putOpt 1 q.source ++ (putOpt 4 q.nuFixed ++ (putOpt 4 q.a ++ (putOpt 2 q.b ++ (putOpt 2 q.ageLimit ++
      (putOpt 4 q.lt ++ (putOpt 1 q.policy ++ (putOpt 2 q.sNu ++ (putOpt 2 q.sT ++ (putOpt 4 q.rb ++
      putOpt 2 q.alpha)))))))))))
  | .setDetector q => some (0x05#8,
      putField 1 (packFlags 8 [q.mode.isSome, q.filter.isSome, q.delay.isSome, q.wMin.isSome, q.wMax.isSome,
        q.missLimit.isSome] q.unlisted) ++ (putOpt 1 q.mode ++ (putOpt 1 q.filter ++ (putOpt 1 q.delay ++
      (putOpt 4 q.wMin ++ (putOpt 4 q.wMax ++ putOpt 1 q.missLimit))))))
  | .setTraverse q => some (0x06#8,
      putField 1 (packFlags 8 [q.sLo.isSome, q.sHi.isSome, q.vStart.isSome, q.vRev.isSome] q.unlisted) ++
      (putOpt 6 q.sLo ++ (putOpt 6 q.sHi ++ (putOpt 4 q.vStart ++ putOpt 4 q.vRev))))
  | .setAttention q => some (0x07#8,
      putField 1 (packFlags 8 [q.threshold.isSome] q.unlisted) ++
      (putField 2 (packFlags 16 (q.levels.map Option.isSome) (0#0)) ++
      (putField 2 (packFlags 16 (q.actions.map Option.isSome) (0#0)) ++
      (putOpt 1 q.threshold ++ (putMasked q.levels ++ putMasked q.actions)))))
  | .channelOn ch => some (0x10#8, putField 1 ch)
  | .channelOff ch => some (0x11#8, putField 1 ch)
  | .preset ch v => some (0x12#8, putField 1 ch ++ putField 6 v)
  | .home => some (0x13#8, [])
  | .putEnvironment q => some (0x14#8,
      putField 1 (packFlags 8 [q.tAir.isSome, q.tScale.isSome, q.p.isSome, q.e.isSome] q.unlisted) ++
      (putOpt 4 q.tAir ++ (putOpt 4 q.tScale ++ (putOpt 4 q.p ++ putOpt 4 q.e))))
  | .anchorTracker nu u => some (0x15#8, putField 1 (packFlags 8 [nu.isSome] u) ++ putOpt 4 nu)
  | .startPlan n => some (0x16#8, putField 2 n)
  | .stopPlan => some (0x17#8, [])
  | .insertRecord q => some (0x18#8,
      putField 2 q.label ++ (putField 6 q.n ++ (putField 4 q.w ++ (putField 2 q.quotaF ++ (putField 2 q.quotaB ++
        putField 1 q.state)))))
  | .changeRecord q => some (0x19#8,
      putField 2 q.label ++ (putField 1 (packFlags 8 [q.n.isSome, q.w.isSome, q.quotaF.isSome, q.quotaB.isSome]
        q.unlisted) ++ (putOpt 6 q.n ++ (putOpt 4 q.w ++ (putOpt 2 q.quotaF ++ putOpt 2 q.quotaB)))))
  | .retireRecord l => some (0x1A#8, putField 2 l)
  | .setRecordState l st => some (0x1B#8, putField 2 l ++ putField 1 st)
  | .clearResults l u => some (0x1C#8, putField 1 (packFlags 8 [true] u) ++ putField 2 l)
  | .clearResultsAll u => some (0x1C#8, putField 1 (packFlags 8 [false] u))
  | .endPass => some (0x1D#8, [])
  | .probe ch k => some (0x1E#8, putField 1 ch ++ putField 1 k)
  | .readRecord l => some (0x20#8, putField 2 l)
  | .findPosition p => some (0x21#8, putField 6 p)
  | .seek p => some (0x22#8, putField 6 p)
  | .readNext f => some (0x23#8, putField 1 f)
  | .readResult l => some (0x24#8, putField 2 l)
  | .readInterval a b => some (0x25#8, putField 2 a ++ putField 2 b)
  | .readChannel ch => some (0x28#8, putField 1 ch)
  | .readCompensation => some (0x29#8, [])
  | .readTraverse => some (0x2A#8, [])
  | .readProbe => some (0x2B#8, [])
  | .readAttention => some (0x2C#8, [])
  | .acknowledge set => some (0x2D#8, putField 2 set)
  | .resetPart => some (0x3F#8, [])
  | .powerOn => none
  | .rstnAssert => none
  | .rstnRelease => none
  | .conversion => none
  | .sampleCounted _ => none
  | .bridgeCheck _ => none
  | .coastTimeout _ => none
  | .settleComplete _ => none
  | .saturationSet _ => none
  | .saturationClear _ => none
  | .probeComplete _ => none
  | .update => none
  | .envStaleCondition => none
  | .edgeAccept _ _ _ => none
  | .latchComplete => none
  | .alignedSample => none
  | .emptyTransaction _ => none
  | .requestFrame _ _ => none
  | .fetch _ => none
  | .frameError => none
  | .unknown => none
  | .csnSeenHigh => none

/-- The bytes of the request frame for a code and a payload: code, length, payload and CRC (R178). -/
def frameBytes (code : Byte) (payload : List Byte) : List Byte :=
  let body := code :: BitVec.ofNat 8 payload.length :: payload
  body ++ [crc body]

/-- The request frame of a request command, as the port keeps it. -/
def encodeFrame (i : Instr) : Option Frame :=
  (encodePayload i).map fun r => frameOf (frameBytes r.1 r.2) 0

end Sys2Proof
end

