-- ==== Sys2Proof/Machine/State.lean ====
section
/-! DEFINITION. The state of the Ospalen LR4: every piece of state the spec gives the part, block by block, and the
queue of commands that wait. Plain data throughout. `State.reset` is the part after the release of a power-on. -/

namespace Sys2Proof.Machine

/-! ### Enumerations (R177) -/

/-- Channel roles (R20). -/
inductive Role where
  | measure
  | plain
  | partner
  | tracker
deriving DecidableEq, Repr

/-- The sense of counting (R11). -/
inductive Sense where
  | plus
  | minus
deriving DecidableEq, Repr

/-- The input source of a channel (R5). -/
inductive InSource where
  | port
  | synth
deriving DecidableEq, Repr

/-- The names of the five channel states, as a history entry and the channel image hold them (R15, R177). -/
inductive ChName where
  | off
  | settling
  | tracking
  | coasting
  | lost
deriving DecidableEq, Repr

/-- Loss reasons (R36). -/
inductive Loss where
  | none
  | dropout
  | slip
  | overspeed
  | range
deriving DecidableEq, Repr

/-- Index sources (R48). -/
inductive IndexSource where
  | fixed
  | environment
  | tracker
deriving DecidableEq, Repr

/-- Update policies (R48). -/
inductive Policy where
  | step
  | slew
  | passHold
deriving DecidableEq, Repr

/-- Detector modes (R111). -/
inductive Mode where
  | edgeRise
  | edgeFall
  | pulseHigh
  | pulseLow
deriving DecidableEq, Repr

/-- Record states (R74). -/
inductive RecState where
  | armed
  | paused
  | suspect
  | complete
deriving DecidableEq, Repr

/-- Directions: FWD is increasing registered position (00_scope, 0.7). -/
inductive Dir where
  | fwd
  | bwd
deriving DecidableEq, Repr

/-- Window sides (R119). -/
inductive Side where
  | low
  | high
deriving DecidableEq, Repr

/-- Reject reasons (R177). -/
inductive Reject where
  | miss
  | double
  | reversal
  | width
  | coast
  | interrupted
deriving DecidableEq, Repr

/-- Kinds of pass end (R104). -/
inductive EndKind where
  | turn
  | span
  | request
  | broken
deriving DecidableEq, Repr

/-- Controller states (R93). -/
inductive Ctl where
  | idle
  | waiting
  | running
deriving DecidableEq, Repr

/-- Attention actions (R158). -/
inductive Action where
  | none
  | brk
  | stop
deriving DecidableEq, Repr

/-- Statuses of a response (R172, R178). -/
inductive Status where
  | ok
  | clamped
  | notReady
  | frameError
  | unknown
  | range
  | conflict
  | state
  | full
  | exists
  | overlap
  | absent
  | occupied
  | busy
deriving DecidableEq, Repr

/-! ### A fringe channel and its beam monitor (chapters 1 and 2) -/

/-- The coast anchor (R31). -/
structure CoastAnchor where
  qStart : Int
  va : Int
  phiStart : Int
  len : Nat
  strong : Nat
deriving DecidableEq, Repr

/-- The channel state; the coast anchor is present exactly while the channel is COASTING (R28, R31). -/
inductive ChState where
  | off
  | settling
  | tracking
  | coasting (a : CoastAnchor)
  | lost
deriving DecidableEq, Repr

/-- The name of a channel state. -/
def ChState.name : ChState → ChName
  | .off => .off
  | .settling => .settling
  | .tracking => .tracking
  | .coasting _ => .coasting
  | .lost => .lost

/-- A count history entry (R15). -/
structure HistEntry where
  k : Nat
  q : Int
  state : ChName
  referenced : Bool
deriving DecidableEq, Repr

/-- The quadrature correction codes (R6). -/
structure Codes where
  offS : Int
  offC : Int
  g : Int
  hs : Int
  p : Int
deriving DecidableEq, Repr

/-- The beam monitor's settings (R26). -/
structure MonSet where
  rLow : Int
  rHyst : Int
  rHigh : Int
  nd : Int
  nr : Int
  tShort : Int
  tSettle : Int
  tol : Int
  limit : Int
deriving DecidableEq, Repr

/-- One fringe channel with its beam monitor (R4, R24, R28). -/
structure Channel where
  role : Role
  sense : Sense
  passK : Int
  lambda : Int
  datum : Int
  source : InSource
  step : Int
  codes : Codes
  mon : MonSet
  x : Int
  y : Int
  phi : Int
  r : Int
  phiOld : Int
  synPhase : Int
  q : Int
  origin : Int
  referenced : Bool
  nu0 : Int
  ring : List Int
  history : List HistEntry
  state : ChState
  loss : Loss
  beam : Bool
  settleRun : Nat
  sat : Bool
  overRun : Nat
  calmRun : Nat
  /-- The first sample counted since the latest CHANNEL_ON (R112, R113). -/
  first : Option Nat
  /-- One more than the number of the latest sample counted. -/
  next : Nat
  /-- How far MEASURE had counted when this channel was switched on (R64: "was OFF when MEASURE counted that sample"). -/
  onAt : Nat
deriving DecidableEq, Repr

/-! ### The probe unit (R41 to R45) -/

/-- Extremes of a probe run (R42). -/
structure Extremes where
  xMin : Int
  xMax : Int
  yMin : Int
  yMax : Int
  rMin : Int
  rMax : Int
deriving DecidableEq, Repr

/-- A probe run in progress. -/
structure ProbeRun where
  ch : Fin 4
  k : Nat
  taken : Nat
  ext : Option Extremes
  sumR : Int
deriving DecidableEq, Repr

/-- The result of a probe run that ended; `mean` is present in a COMPLETE result and absent in an ABORTED one. -/
structure ProbeResult where
  ch : Fin 4
  k : Nat
  aborted : Bool
  taken : Nat
  ext : Option Extremes
  mean : Option Int
deriving DecidableEq, Repr

/-- The probe unit: FREE when no run is held. -/
structure Probe where
  run : Option ProbeRun
  result : Option ProbeResult
deriving DecidableEq, Repr

/-! ### The compensation unit (chapter 3) -/

/-- The environment record (R54). -/
structure Env where
  tAir : Option Int
  tScale : Option Int
  p : Option Int
  e : Option Int
deriving DecidableEq, Repr

/-- The tracker anchor (R56). -/
structure TrackerAnchor where
  nu : Int
  q : Int
deriving DecidableEq, Repr

/-- The compensation unit (R47, R48). `forceA`, `forceB` and `forcePolicy` are A, B and the policy as the latest update
took them: the three settings that "take effect at the next update" and are used outside updates too (R48, R56, R61). -/
structure Comp where
  source : IndexSource
  nuFixed : Int
  a : Int
  b : Int
  ageLimit : Int
  lt : Int
  policy : Policy
  sNu : Int
  sT : Int
  rb : Int
  alpha : Int
  forceA : Int
  forceB : Int
  forcePolicy : Policy
  env : Env
  age : Nat
  judgedAge : Nat
  fresh : Bool
  stale : Bool
  anchor : Option TrackerAnchor
  nuTarget : Int
  nuApplied : Int
  tTarget : Option Int
  tApplied : Option Int
  factors : Vector Int 4
deriving DecidableEq, Repr

/-- The real-time track and the aligned track (R64, R113). -/
structure Tracks where
  /-- The latest real-time registered position. -/
  rt : Option Int
  /-- The samples below this number have been taken by the real-time track. -/
  rtCount : Nat
  /-- The next sample the aligned track reaches. -/
  alignedNext : Nat
  /-- The samples below this number are due on the aligned track. -/
  alignedLimit : Nat
deriving DecidableEq, Repr

/-! ### The line table (chapter 4) -/

/-- Minimum and maximum deviation, present while the count is not 0 (R132). -/
structure MinMax where
  min : Int
  max : Int
deriving DecidableEq, Repr

/-- An accumulator (R132). -/
structure Acc where
  n : Nat
  sum : Int
  sumSq : Int
  ext : Option MinMax
deriving DecidableEq, Repr

/-- The last capture of a record (R71). -/
structure LastCapture where
  dev : Int
  pass : Nat
  dir : Dir
deriving DecidableEq, Repr

/-- The six reject counters (R71). -/
structure Rejects where
  miss : Nat
  double : Nat
  reversal : Nat
  width : Nat
  coast : Nat
  interrupted : Nat
deriving DecidableEq, Repr

/-- A line record (R71). -/
structure LineRec where
  label : Nat
  n : Int
  w : Int
  quotaF : Nat
  quotaB : Nat
  state : RecState
  accF : Acc
  accB : Acc
  last : Option LastCapture
  misses : Nat
  rejects : Rejects
deriving DecidableEq, Repr

/-- The line table with its scan cursor (R72, R90). -/
structure Table where
  records : List LineRec
  cursorKey : Int
  cursorExclusive : Bool
deriving DecidableEq, Repr

/-! ### The traverse controller (chapter 5) -/

/-- The traverse controller (R93). -/
structure Traverse where
  ctl : Ctl
  counted : Bool
  remaining : Nat
  passNo : Nat
  dir : Option Dir
  broken : Nat
  sLo : Int
  sHi : Int
  vStart : Int
  vRev : Int
  ring : List Int
  latest : Option Int
deriving DecidableEq, Repr

/-! ### The registration engine (chapter 6) -/

/-- What a latched edge stands for (R112). -/
inductive EdgeKind where
  | strobe
  | leading
  | trailing
deriving DecidableEq, Repr

/-- A completed latch (R115, R116): its position and the raw eighth-counts of MEASURE and PARTNER where it has them, and its
judgement. `coast` is the reason COAST of an invalid latch; INTERRUPTED otherwise. -/
structure Latched where
  pos : Option Int
  rawM : Int
  rawP : Int
  valid : Bool
  homeValid : Bool
  coast : Bool
deriving DecidableEq, Repr

/-- An entry of the latch list (R112). -/
structure Edge where
  kind : EdgeKind
  a : Int
  k : Nat
  fine : Int
  latch : Option Latched
deriving DecidableEq, Repr

/-- An open pulse: the position, validity, reason and raw eighth-counts of its leading edge (R117). `forHome` marks a pulse
opened while HOME is armed and no pass is running, whose soundness asks for TRACKING alone (R118). -/
structure OpenPulse where
  lead : Latched
  forHome : Bool
deriving DecidableEq, Repr

/-- The outcome of an occupancy (R121). -/
inductive OccOutcome where
  | none
  | provisional (dev pos : Int)
  | spoiled (reason : Reject)
deriving DecidableEq, Repr

/-- The occupancy (R121). -/
structure Occ where
  label : Nat
  side : Side
  dir : Dir
  outcome : OccOutcome
  pending : Option Side
deriving DecidableEq, Repr

/-- The registration engine (R109, R130). -/
structure Engine where
  mode : Mode
  filter : Int
  delay : Int
  wMin : Int
  wMax : Int
  missLimit : Int
  /-- The F in force before the latest completion that carried one: it governs the level changes seen up to that
  completion (R109). -/
  priorFilter : Int
  /-- The core clock of that completion; a level change seen after it is governed by `filter` (R109). -/
  filterClock : Int
  /-- The filtered level; absent until the first confirmation after a reset (R110). -/
  level : Option Bool
  /-- The core clock at which the filtered level was first seen. -/
  levelClock : Option Nat
  latches : List Edge
  pulse : Option OpenPulse
  occ : Option Occ
  strays : Nat
  home : Bool
deriving DecidableEq, Repr

/-! ### The attention unit (chapter 8) -/

/-- The detail of a raising; it names its source (R145, R183). -/
inductive Detail where
  | lost (ch : Fin 4) (reason : Loss)
  | bridge (ch : Fin 4) (d : Int)
  | saturate (ch : Fin 4)
  /-- `none` is the mark NEVER. -/
  | envStale (age : Option Nat)
  | envClamp (tAir tScale p e : Bool)
  | homeDone (partner : Option (Fin 4))
  | passEnd (number : Nat) (dir : Dir) (kind : EndKind)
  | planDone (stopped : Bool)
  | recComplete (label : Nat)
  | reject (label : Nat) (reason : Reject)
  /-- `none` is a strobe with no position. -/
  | stray (pos : Option Int)
  | probeDone (ch : Fin 4) (aborted : Bool)
  | linkFault (reason : LinkReason) (code : Byte)
deriving DecidableEq, Repr

/-- What a pending source holds: its occurrence count and the detail of the latest raising (R149). -/
structure Raised where
  count : Nat
  detail : Detail
deriving DecidableEq, Repr

/-- An attention source: settings, and its raisings while it is pending. -/
structure Source where
  level : Nat
  action : Action
  raised : Option Raised
deriving DecidableEq, Repr

/-- The attention unit (R148). -/
structure Attention where
  threshold : Nat
  sources : Vector Source 16
deriving DecidableEq, Repr

/-! ### The request port (chapter 9) -/

/-- A response; its length byte and CRC are computed from it (R168). -/
structure Response where
  status : Status
  payload : List Byte
deriving DecidableEq, Repr

/-- The four states of the port, with the processing flag, the request in process and the response slot (R165). -/
inductive Link where
  | empty
  | processing (f : Frame)
  | resetting
  | holding (r : Response)
deriving DecidableEq, Repr

/-- The request port (R176). -/
structure Port where
  /-- CSN has been seen high since the release of power-on or RSTN. -/
  footing : Bool
  link : Link
  /-- The bytes driven on SDO in the latest transaction judged (R159, R166). -/
  sdo : List Byte
deriving DecidableEq, Repr

/-! ### The whole part -/

/-- The state of the LR4. -/
structure State where
  rstnLow : Bool
  conversions : Nat
  chans : Vector Channel 4
  probe : Probe
  comp : Comp
  tracks : Tracks
  table : Table
  trav : Traverse
  eng : Engine
  att : Attention
  port : Port
  /-- The commands that wait, first in, first out. -/
  pending : List Instr
deriving DecidableEq, Repr

/-- No command of the LR4 stops the machine: every rule gives an effect, a status in the response, or nothing. -/
inductive Fault where
deriving DecidableEq, Repr

/-- Why a step gives no meaning. -/
inductive Refusal where
  /-- Raised by exec's arm of a command that has no meaning yet; safe, since nothing is claimed of it. -/
  | notModelled (mnemonic : String)
deriving DecidableEq, Repr

/-! ### Reset values -/

/-- The beam monitor's defaults (R26). -/
def MonSet.default : MonSet := ⟨2000, 500, 40000, 8, 16, 500, 20, 512, 1024⟩

/-- A channel after a reset, with the role the reset gives it (R24, R28). -/
def Channel.reset (role : Role) : Channel where
  role := role
  sense := .plus
  passK := 4
  lambda := 632991212
  datum := 0
  source := .port
  step := 0
  codes := ⟨0, 0, 32768, 0, 0⟩
  mon := .default
  x := 0
  y := 0
  phi := 0
  r := 0
  phiOld := 0
  synPhase := 0
  q := 0
  origin := 0
  referenced := false
  nu0 := 0
  ring := List.replicate Config.ringDepth 0
  history := []
  state := .off
  loss := .none
  beam := false
  settleRun := 0
  sat := false
  overRun := 0
  calmRun := 0
  first := none
  next := 0
  onAt := 0

/-- The four channels after a reset (R24). -/
def resetChannels : Vector Channel 4 :=
  #v[.reset .measure, .reset .plain, .reset .plain, .reset .plain]

/-- The compensation unit after a reset (R47). -/
def Comp.reset : Comp where
  source := .fixed
  nuFixed := 0
  a := 784049
  b := 380
  ageLimit := 30
  lt := 0
  policy := .step
  sNu := 10
  sT := 5
  rb := 0
  alpha := 0
  forceA := 784049
  forceB := 380
  forcePolicy := .step
  env := ⟨none, none, none, none⟩
  age := 0
  judgedAge := 0
  fresh := false
  stale := false
  anchor := none
  nuTarget := 0
  nuApplied := 0
  tTarget := none
  tApplied := none
  factors := #v[20741856035, 20741856035, 20741856035, 20741856035]

/-- The cursor after a reset lies before every record (R92). -/
def Table.empty : Table := ⟨[], -(2 ^ 47 - 1), false⟩

/-- The traverse controller after a reset (R93). -/
def Traverse.reset : Traverse where
  ctl := .idle
  counted := true
  remaining := 0
  passNo := 0
  dir := none
  broken := 0
  sLo := -(2 ^ 47 - 1)
  sHi := 2 ^ 47 - 1
  vStart := 100
  vRev := 50
  ring := []
  latest := none

/-- The registration engine after a reset (R109, R130). -/
def Engine.reset : Engine where
  mode := .edgeRise
  filter := 2
  delay := 0
  wMin := 500
  wMax := 20000000
  missLimit := 0
  priorFilter := 2
  filterClock := -1
  level := none
  levelClock := none
  latches := []
  pulse := none
  occ := none
  strays := 0
  home := false

/-- The attention unit after a reset (R148). -/
def Attention.reset : Attention := ⟨0, Vector.replicate 16 ⟨0, .none, none⟩⟩

/-- The request port after power-on or RSTN (R176). -/
def Port.reset : Port := ⟨false, .empty, []⟩

/-- The LR4 after the release of a power-on, with RSTN high and an empty queue (R24, R47, R92, R93, R130, R148, R176). -/
def State.reset : State where
  rstnLow := false
  conversions := 0
  chans := resetChannels
  probe := ⟨none, none⟩
  comp := .reset
  tracks := ⟨none, 0, 0, 0⟩
  table := .empty
  trav := .reset
  eng := .reset
  att := .reset
  port := .reset
  pending := []

end Sys2Proof.Machine
end

