-- ==== Sys2Proof/Machine/Ops.lean ====
section
/-! DEFINITION. The shared operations: the roundings of R1, access to the parts of State, the records of the line table,
a raising's own effect on the attention unit, and the answer of a request at its completion. -/

namespace Sys2Proof.Machine

/-! ### Rounding, clamping and searching (R1) -/

/-- A quotient rounded downward; every divisor of the manual is positive, where `/` is that rounding. -/
def divDown (a b : Int) : Int := a / b

/-- A quotient rounded toward zero. -/
def divZero (a b : Int) : Int := a.tdiv b

/-- A quotient rounded nearest, a half going upward. -/
def divNearest (a b : Int) : Int := (2 * a + b) / (2 * b)

/-- The magnitude of an integer. -/
def mag (a : Int) : Int := if a < 0 then -a else a

/-- A quotient rounded nearest, halves away from zero (R137). -/
def divAway (a b : Int) : Int :=
  if a < 0 then -((2 * mag a + b) / (2 * b)) else (2 * a + b) / (2 * b)

/-- Replace a value outside a range by the nearer end of the range (00_scope, 0.7). -/
def clamp (lo hi v : Int) : Int := if v < lo then lo else if hi < v then hi else v

/-- Let a counter rise by one to its maximum and stay there (00_scope, 0.7). -/
def satInc (top n : Nat) : Nat := if n < top then n + 1 else top

/-- The greatest number below `acc + 2 ^ bits`, from `acc` up, that meets a test which holds on an initial stretch. -/
def greatest (p : Nat → Bool) : Nat → Nat → Nat
  | 0, acc => acc
  | bits + 1, acc => greatest p bits (if p (acc + 2 ^ bits) then acc + 2 ^ bits else acc)

/-! ### The parts of State -/

/-- Channel `c`. -/
def State.chan (s : State) (c : Fin 4) : Channel := s.chans[c]

/-- Put a channel back. -/
def State.setChan (s : State) (c : Fin 4) (ch : Channel) : State := { s with chans := s.chans.set c ch }

/-- The channel that a request's channel byte names; none outside 0..3. -/
def channelOf (b : Byte) : Option (Fin 4) := if h : b.toNat < 4 then some ⟨b.toNat, h⟩ else none

/-- MEASURE is FC0, always (R20). -/
def State.measure (s : State) : Channel := s.chan 0

/-- The channel that holds a role, among FC1 to FC3 (R20). -/
def State.holder (s : State) (role : Role) : Option (Fin 4) :=
  [1, 2, 3].find? fun c => decide ((s.chan c).role = role)

/-- The PARTNER channel, when one is assigned. -/
def State.partner (s : State) : Option (Fin 4) := s.holder .partner

/-- The TRACKER channel, when one is assigned. -/
def State.tracker (s : State) : Option (Fin 4) := s.holder .tracker

/-- MEASURE or PARTNER. -/
def Role.inPosition (r : Role) : Bool := decide (r = .measure) || decide (r = .partner)

/-- V16, the sum of the velocity ring (R14). -/
def Channel.v16 (ch : Channel) : Int := ch.ring.sum

/-- A channel is TRACKING. -/
def Channel.tracking (ch : Channel) : Bool := decide (ch.state = .tracking)

/-- RESET_PART is in progress (R165). -/
def State.resetting (s : State) : Bool := decide (s.port.link = .resetting)

/-- The part works: RSTN is not low and no RESET_PART is in progress (R2, R174, R176). -/
def State.active (s : State) : Bool := !s.rstnLow && !s.resetting

/-- A pass is RUNNING. -/
def State.running (s : State) : Bool := decide (s.trav.ctl = .running)

/-- The length of the aligned track's lag, in samples (R113). -/
def Engine.lag (e : Engine) : Nat := (e.delay / 8).toNat + 2

/-- The history's entry of a sample (R15). -/
def Channel.entry (ch : Channel) (k : Nat) : Option HistEntry := ch.history.find? fun e => decide (e.k = k)

/-- The answer of a count history asked for a sample number (R15). -/
inductive HistAnswer where
  | held (e : HistEntry)
  | notYet
  | notHeld
deriving DecidableEq, Repr

/-- The least sample for which the channel's history answers "not yet". Before the first sample of a run the samples of the runs
before it are gone (R15). That those which MEASURE had counted at the CHANNEL_ON precede the run for a latch that asks then (R115),
although R3 lets one of them be its first sample, is the model's choice (entry 9). -/
def Channel.countsFrom (ch : Channel) : Nat := if ch.first = none then max ch.onAt ch.next else ch.next

/-- Ask a channel's history for a sample (R15): held, not yet counted, or not held, because the channel never counted it or
it has left the history. -/
def Channel.ask (ch : Channel) (k : Nat) : HistAnswer :=
  match ch.entry k with
  | some e => .held e
  | none => if ch.countsFrom ≤ k then .notYet else .notHeld

/-! ### Records of the line table (R71, R72) -/

/-- The record of a label. -/
def Table.find (t : Table) (label : Nat) : Option LineRec := t.records.find? fun r => decide (r.label = label)

/-- Change the record of a label. -/
def Table.modify (t : Table) (label : Nat) (f : LineRec → LineRec) : Table :=
  { t with records := t.records.map fun r => if r.label = label then f r else r }

/-- Put a record in its place in the order of N (R81). -/
def insertByN (r : LineRec) : List LineRec → List LineRec
  | [] => [r]
  | q :: qs => if r.n < q.n then r :: q :: qs else q :: insertByN r qs

/-- The low end of a record's window. -/
def LineRec.lo (r : LineRec) : Int := r.n - r.w

/-- The high end of a record's window. -/
def LineRec.hi (r : LineRec) : Int := r.n + r.w

/-- A position lies in a record's window, both ends included (R71). -/
def LineRec.contains (r : LineRec) (p : Int) : Bool := decide (r.lo ≤ p) && decide (p ≤ r.hi)

/-- The record whose window contains a position (R72: at most one). -/
def Table.at (t : Table) (p : Int) : Option LineRec := t.records.find? fun r => r.contains p

/-- Two windows overlap or touch (R72). -/
def windowsClash (n w n' w' : Int) : Bool := decide (n - w ≤ n' + w') && decide (n' - w' ≤ n + w)

/-- An empty accumulator (R132). -/
def Acc.empty : Acc := ⟨0, 0, 0, none⟩

/-- Reject counters at 0. -/
def Rejects.zero : Rejects := ⟨0, 0, 0, 0, 0, 0⟩

/-- Add one to the counter of a reason; a counter at 255 stays (R73). -/
def Rejects.add (c : Rejects) : Reject → Rejects
  | .miss => { c with miss := satInc 255 c.miss }
  | .double => { c with double := satInc 255 c.double }
  | .reversal => { c with reversal := satInc 255 c.reversal }
  | .width => { c with width := satInc 255 c.width }
  | .coast => { c with coast := satInc 255 c.coast }
  | .interrupted => { c with interrupted := satInc 255 c.interrupted }

/-- The accumulator of a direction. -/
def LineRec.acc (r : LineRec) : Dir → Acc
  | .fwd => r.accF
  | .bwd => r.accB

/-- The quota of a direction. -/
def LineRec.quota (r : LineRec) : Dir → Nat
  | .fwd => r.quotaF
  | .bwd => r.quotaB

/-- Count a miss or reject against a record (R73, R76, R127): a MISS raises the consecutive misses and may make the
record SUSPECT. -/
def LineRec.tally (missLimit : Int) (reason : Reject) (r : LineRec) : LineRec :=
  let r' := { r with rejects := r.rejects.add reason }
  if reason = .miss then
    let misses := satInc 15 r.misses
    { r' with
      misses := misses
      state := if missLimit ≠ 0 ∧ missLimit ≤ misses then .suspect else r.state }
  else r'

/-- Clear a record's results (R86). -/
def LineRec.cleared (r : LineRec) : LineRec :=
  { r with
    accF := .empty
    accB := .empty
    last := none
    misses := 0
    rejects := .zero
    state := match r.state with
      | .complete => .armed
      | .suspect => .armed
      | st => st }

/-! ### Attention: a raising's own effect (R149) -/

/-- The number of the source that a detail belongs to (R145). -/
def Detail.source : Detail → Fin 16
  | .lost ch _ => ⟨ch.val, by omega⟩
  | .bridge _ _ => 4
  | .saturate _ => 5
  | .envStale _ => 6
  | .envClamp _ _ _ _ => 7
  | .homeDone _ => 8
  | .passEnd _ _ _ => 9
  | .planDone _ => 10
  | .recComplete _ => 11
  | .reject _ _ => 12
  | .stray _ => 13
  | .probeDone _ _ => 14
  | .linkFault _ _ => 15

/-- The occurrence count of a source: 0 exactly while it is not pending (R149). -/
def Source.count (x : Source) : Nat :=
  match x.raised with
  | none => 0
  | some r => r.count

/-- A source raised once more (R149). -/
def Source.raise (x : Source) (d : Detail) : Source := { x with raised := some ⟨satInc 255 x.count, d⟩ }

/-- Source `i` of the attention unit. -/
def State.source (s : State) (i : Fin 16) : Source := s.att.sources[i]

/-- Change a source. -/
def State.setSource (s : State) (i : Fin 16) (x : Source) : State :=
  { s with att := { s.att with sources := s.att.sources.set i x } }

/-- A raising as the attention unit notes it (R149), without its effect on a running pass. -/
def State.note (s : State) (d : Detail) : State := s.setSource d.source ((s.source d.source).raise d)

/-! ### The answer of a request (R168, R169) -/

/-- The request in process is the one that this command completes (R169). -/
def State.awaits (s : State) (i : Instr) : Bool :=
  match s.port.link with
  | .processing f => decide (completionOf f = i)
  | _ => false

/-- Place a response in the slot: the processing flag is cleared and RDY falls (R169). -/
def State.respond (s : State) (r : Response) : State := { s with port := { s.port with link := .holding r } }

/-- A response with an empty payload. -/
def Response.bare (st : Status) : Response := ⟨st, []⟩

/-- The completion of a request: where the request in process is this one, its effects and its response come at one
moment; where it is not, the completion does not arise (R165, R169). -/
def complete (i : Instr) (f : State → State × Response) (s : State) : Host.Outcome State Fault Refusal :=
  if s.awaits i then .next ((f s).1.respond (f s).2) else .next s

/-- A refused request changes nothing (R173). -/
def refuse (st : Status) (s : State) : State × Response := (s, .bare st)

/-- The status of an accepted request: CLAMPED where a value was clamped (R173). -/
def accepted (clamped : Bool) : Response := .bare (if clamped then .clamped else .ok)

/-- A readout changes nothing and answers OK with its image. -/
def image (payload : List Byte) (s : State) : State × Response := (s, ⟨.ok, payload⟩)

end Sys2Proof.Machine
end

