-- ==== Sys2Proof/Machine/Operands.lean ====
section
/-! DEFINITION. What the fields of a request mean: the enumerations of R177 in both directions, and the ranges to which
the setting requests clamp their values. -/

namespace Sys2Proof.Machine

/-! ### Enumerations read from a byte (R177): a byte the table does not list names nothing -/

def roleOf (b : Byte) : Option Role :=
  match b.toNat with
  | 0 => some .measure
  | 1 => some .plain
  | 2 => some .partner
  | 3 => some .tracker
  | _ => none

/-- 01h is +1, FFh is -1 (R179). -/
def senseOf (b : Byte) : Option Sense :=
  match b.toNat with
  | 1 => some .plus
  | 255 => some .minus
  | _ => none

/-- K is 1, 2, 4 or 8 (R21). -/
def passKOf (b : Byte) : Option Int :=
  match b.toNat with
  | 1 => some 1
  | 2 => some 2
  | 4 => some 4
  | 8 => some 8
  | _ => none

def inSourceOf (b : Byte) : Option InSource :=
  match b.toNat with
  | 0 => some .port
  | 1 => some .synth
  | _ => none

def indexSourceOf (b : Byte) : Option IndexSource :=
  match b.toNat with
  | 0 => some .fixed
  | 1 => some .environment
  | 2 => some .tracker
  | _ => none

def policyOf (b : Byte) : Option Policy :=
  match b.toNat with
  | 0 => some .step
  | 1 => some .slew
  | 2 => some .passHold
  | _ => none

def modeOf (b : Byte) : Option Mode :=
  match b.toNat with
  | 0 => some .edgeRise
  | 1 => some .edgeFall
  | 2 => some .pulseHigh
  | 3 => some .pulseLow
  | _ => none

def recStateOf (b : Byte) : Option RecState :=
  match b.toNat with
  | 0 => some .armed
  | 1 => some .paused
  | 2 => some .suspect
  | 3 => some .complete
  | _ => none

def actionOf (b : Byte) : Option Action :=
  match b.toNat with
  | 0 => some .none
  | 1 => some .brk
  | 2 => some .stop
  | _ => none

/-- The states ARMED and PAUSED, the only ones INSERT_RECORD and SET_RECORD_STATE take (R80, R85). -/
def askedState (b : Byte) : Option RecState :=
  match recStateOf b with
  | some .armed => some .armed
  | some .paused => some .paused
  | _ => none

/-! ### Enumerations and signs sent as numbers (R177, R178) -/

def Sense.toInt : Sense → Int
  | .plus => 1
  | .minus => -1

def ChName.code : ChName → Nat
  | .off => 0
  | .settling => 1
  | .tracking => 2
  | .coasting => 3
  | .lost => 4

def Loss.code : Loss → Nat
  | .none => 0
  | .dropout => 1
  | .slip => 2
  | .overspeed => 3
  | .range => 4

def IndexSource.code : IndexSource → Nat
  | .fixed => 0
  | .environment => 1
  | .tracker => 2

def RecState.code : RecState → Nat
  | .armed => 0
  | .paused => 1
  | .suspect => 2
  | .complete => 3

def Dir.code : Dir → Nat
  | .fwd => 0
  | .bwd => 1

def Side.code : Side → Nat
  | .low => 0
  | .high => 1

def OccOutcome.code : OccOutcome → Nat
  | .none => 0
  | .provisional _ _ => 1
  | .spoiled _ => 2

def Reject.code : Reject → Nat
  | .miss => 0
  | .double => 1
  | .reversal => 2
  | .width => 3
  | .coast => 4
  | .interrupted => 5

def EndKind.code : EndKind → Nat
  | .turn => 0
  | .span => 1
  | .request => 2
  | .broken => 3

def Ctl.code : Ctl → Nat
  | .idle => 0
  | .waiting => 1
  | .running => 2

def linkReasonCode : LinkReason → Nat
  | .overrun => 0
  | .crc => 1
  | .length => 2

def Status.code : Status → Byte
  | .ok => 0x00
  | .clamped => 0x01
  | .notReady => 0x02
  | .frameError => 0x03
  | .unknown => 0x04
  | .range => 0x05
  | .conflict => 0x06
  | .state => 0x07
  | .full => 0x08
  | .exists => 0x09
  | .overlap => 0x0A
  | .absent => 0x0B
  | .occupied => 0x0C
  | .busy => 0x0D

/-! ### Optional values -/

/-- An optional byte whose value must name something: `none` where it is present and names nothing. -/
def named {α : Type} (f : Byte → Option α) (b : Option Byte) : Option (Option α) :=
  match b with
  | none => some none
  | some b => (f b).map some

/-- The clamped value of an optional setting, and the setting held where it is absent. -/
def settle (lo hi held : Int) (v : Option Int) : Int :=
  match v with
  | none => held
  | some v => clamp lo hi v

/-- A present value lies outside its range. -/
def outside (lo hi : Int) (v : Option Int) : Bool :=
  match v with
  | none => false
  | some v => decide (v < lo) || decide (hi < v)

/-- An optional unsigned field. -/
def unsigned {w : Nat} (v : Option (BitVec w)) : Option Int := v.map fun b => (b.toNat : Int)

/-- An optional signed field. -/
def signed {w : Nat} (v : Option (BitVec w)) : Option Int := v.map BitVec.toInt

/-- The tracker length: 0, or 1,000..2,000,000; 1..999 is clamped to 1,000 (R48). -/
def clampLt (v : Int) : Int := if v ≤ 0 then 0 else clamp 1000 2000000 v

end Sys2Proof.Machine

namespace Sys2Proof

open Sys2Proof.Machine

/-! ### Settings carried by the requests -/

/-- The nine monitor settings after a SET_MONITOR (R26). -/
def SetMonitorReq.apply (q : SetMonitorReq) (m : MonSet) : MonSet where
  rLow := settle 0 46340 m.rLow (unsigned q.rLow)
  rHyst := settle 0 8191 m.rHyst (unsigned q.rHyst)
  rHigh := settle 0 46340 m.rHigh (unsigned q.rHigh)
  nd := settle 1 64 m.nd (unsigned q.nd)
  nr := settle 1 64 m.nr (unsigned q.nr)
  tShort := settle 1 2000 m.tShort (unsigned q.tShort)
  tSettle := settle 1 255 m.tSettle (unsigned q.tSettle)
  tol := settle 64 1024 m.tol (unsigned q.tol)
  limit := settle 256 1536 m.limit (unsigned q.limit)

/-- A SET_MONITOR clamps some value (R26). -/
def SetMonitorReq.clamps (q : SetMonitorReq) : Bool :=
  outside 0 46340 (unsigned q.rLow) || outside 0 8191 (unsigned q.rHyst) || outside 0 46340 (unsigned q.rHigh) ||
  outside 1 64 (unsigned q.nd) || outside 1 64 (unsigned q.nr) || outside 1 2000 (unsigned q.tShort) ||
  outside 1 255 (unsigned q.tSettle) || outside 64 1024 (unsigned q.tol) || outside 256 1536 (unsigned q.limit)

/-- The five codes of a SET_QUADRATURE, clamped (R6, R7). -/
def SetQuadratureReq.codes (q : SetQuadratureReq) : Codes where
  offS := clamp (-8192) 8191 q.offS.toInt
  offC := clamp (-8192) 8191 q.offC.toInt
  g := clamp 0 65535 q.g.toNat
  hs := clamp 0 32767 q.hs.toNat
  p := clamp (-16384) 16383 q.p.toInt

/-- A SET_QUADRATURE clamps some code (R7). -/
def SetQuadratureReq.clamps (q : SetQuadratureReq) : Bool :=
  outside (-8192) 8191 (some q.offS.toInt) || outside (-8192) 8191 (some q.offC.toInt) ||
  outside 0 65535 (some q.g.toNat) || outside 0 32767 (some q.hs.toNat) || outside (-16384) 16383 (some q.p.toInt)

/-- The channel's fields after a SET_CHANNEL whose enumerated fields name `role`, `sense`, `passK` and `source` (R21). -/
def SetChannelReq.apply (q : SetChannelReq) (role : Option Role) (sense : Option Sense) (passK : Option Int)
    (source : Option InSource) (ch : Channel) : Channel :=
  { ch with
    role := role.getD ch.role
    sense := sense.getD ch.sense
    passK := passK.getD ch.passK
    lambda := settle 400000000 1000000000 ch.lambda (unsigned q.lambda)
    datum := settle 0 4000000 ch.datum (unsigned q.datum)
    source := source.getD ch.source
    step := settle (-2047) 2047 ch.step (signed q.step) }

/-- A SET_CHANNEL clamps some value (R21). -/
def SetChannelReq.clamps (q : SetChannelReq) : Bool :=
  outside 400000000 1000000000 (unsigned q.lambda) || outside 0 4000000 (unsigned q.datum) ||
  outside (-2047) 2047 (signed q.step)

/-- A SET_CHANNEL carries a field other than the synthetic step (R21 check 2). -/
def SetChannelReq.beyondStep (q : SetChannelReq) : Bool :=
  q.role.isSome || q.sense.isSome || q.passK.isSome || q.lambda.isSome || q.datum.isSome || q.source.isSome

/-- The compensation unit's settings after a SET_COMPENSATION whose source and policy name `source` and `policy` (R48). -/
def SetCompensationReq.apply (q : SetCompensationReq) (source : Option IndexSource) (policy : Option Policy)
    (c : Comp) : Comp :=
  { c with
    source := source.getD c.source
    nuFixed := settle 0 400000 c.nuFixed (signed q.nuFixed)
    a := settle 600000 1000000 c.a (signed q.a)
    b := settle 0 1000 c.b (unsigned q.b)
    ageLimit := settle 1 600 c.ageLimit (unsigned q.ageLimit)
    lt := match signed q.lt with
      | none => c.lt
      | some v => clampLt v
    policy := policy.getD c.policy
    sNu := settle 1 1000 c.sNu (unsigned q.sNu)
    sT := settle 1 1000 c.sT (unsigned q.sT)
    rb := settle (-262144) 262143 c.rb (signed q.rb)
    alpha := settle 0 30000 c.alpha (unsigned q.alpha) }

/-- A SET_COMPENSATION clamps some value (R48). -/
def SetCompensationReq.clamps (q : SetCompensationReq) : Bool :=
  outside 0 400000 (signed q.nuFixed) || outside 600000 1000000 (signed q.a) || outside 0 1000 (unsigned q.b) ||
  outside 1 600 (unsigned q.ageLimit) ||
  (match signed q.lt with
    | none => false
    | some v => decide (clampLt v ≠ v)) ||
  outside 1 1000 (unsigned q.sNu) || outside 1 1000 (unsigned q.sT) || outside (-262144) 262143 (signed q.rb) ||
  outside 0 30000 (unsigned q.alpha)

/-- The detector settings after a SET_DETECTOR whose mode names `mode` and which completes at a core clock: an F carried
leaves the one before it to the level changes seen up to that clock (R109). -/
def SetDetectorReq.apply (q : SetDetectorReq) (mode : Option Mode) (clock : Int) (e : Engine) : Engine :=
  { e with
    priorFilter := if q.filter.isSome then e.filter else e.priorFilter
    filterClock := if q.filter.isSome then clock else e.filterClock
    mode := mode.getD e.mode
    filter := settle 0 15 e.filter (unsigned q.filter)
    delay := settle 0 240 e.delay (unsigned q.delay)
    wMin := settle 0 50000000 e.wMin (signed q.wMin)
    wMax := settle 0 50000000 e.wMax (signed q.wMax)
    missLimit := settle 0 15 e.missLimit (unsigned q.missLimit) }

/-- A SET_DETECTOR clamps some value (R109). -/
def SetDetectorReq.clamps (q : SetDetectorReq) : Bool :=
  outside 0 15 (unsigned q.filter) || outside 0 240 (unsigned q.delay) || outside 0 50000000 (signed q.wMin) ||
  outside 0 50000000 (signed q.wMax) || outside 0 15 (unsigned q.missLimit)

/-- The span and thresholds after a SET_TRAVERSE (R97). -/
def SetTraverseReq.apply (q : SetTraverseReq) (t : Traverse) : Traverse :=
  { t with
    sLo := settle (-Config.positionMax) Config.positionMax t.sLo (signed q.sLo)
    sHi := settle (-Config.positionMax) Config.positionMax t.sHi (signed q.sHi)
    vStart := settle 1 1000000 t.vStart (signed q.vStart)
    vRev := settle 1 1000000 t.vRev (signed q.vRev) }

/-- A SET_TRAVERSE clamps some value (R97). -/
def SetTraverseReq.clamps (q : SetTraverseReq) : Bool :=
  outside (-Config.positionMax) Config.positionMax (signed q.sLo) ||
  outside (-Config.positionMax) Config.positionMax (signed q.sHi) ||
  outside 1 1000000 (signed q.vStart) || outside 1 1000000 (signed q.vRev)

/-- The environment record after a PUT_ENVIRONMENT (R54). -/
def PutEnvironmentReq.apply (q : PutEnvironmentReq) (e : Env) : Env where
  tAir := match signed q.tAir with
    | none => e.tAir
    | some v => some (clamp (-10000) 50000 v)
  tScale := match signed q.tScale with
    | none => e.tScale
    | some v => some (clamp (-10000) 50000 v)
  p := match signed q.p with
    | none => e.p
    | some v => some (clamp 50000 120000 v)
  e := match signed q.e with
    | none => e.e
    | some v => some (clamp 0 10000 v)

/-- The fields that a PUT_ENVIRONMENT clamps (R55): air temperature, scale temperature, pressure, vapour pressure. -/
def PutEnvironmentReq.clamped (q : PutEnvironmentReq) : Bool × Bool × Bool × Bool :=
  (outside (-10000) 50000 (signed q.tAir), outside (-10000) 50000 (signed q.tScale),
    outside 50000 120000 (signed q.p), outside 0 10000 (signed q.e))

/-- A PUT_ENVIRONMENT clamps some field. -/
def PutEnvironmentReq.clamps (q : PutEnvironmentReq) : Bool :=
  q.clamped.1 || q.clamped.2.1 || q.clamped.2.2.1 || q.clamped.2.2.2

end Sys2Proof
end

