-- ==== Sys2Proof/Machine/Flags.lean ====
section
/-! DEFINITION. The flags and output lines that the rules give as functions of other state: a record's eligibility and
settled state (R74), the lines WIN, ATTN, MSTOP and RDY (R106, R152, R153, R167), ΔP16 and the speed test (R98, R99), the
conditions of the condition sources (R146) and the first source (R155). -/

namespace Sys2Proof.Machine

/-! ### Records (R74) -/

/-- A quota is met when it is nonzero and the count of its direction equals it. -/
def LineRec.met (r : LineRec) (d : Dir) : Bool := decide (r.quota d ≠ 0) && decide ((r.acc d).n = r.quota d)

/-- A record is eligible in a direction when it is ARMED and that direction's quota is not met. -/
def LineRec.eligible (r : LineRec) (d : Dir) : Bool := decide (r.state = .armed) && !r.met d

/-- At least one quota is nonzero and every nonzero quota is met. -/
def LineRec.finished (r : LineRec) : Bool :=
  (decide (r.quotaF ≠ 0) || decide (r.quotaB ≠ 0)) &&
  (decide (r.quotaF = 0) || r.met .fwd) && (decide (r.quotaB = 0) || r.met .bwd)

/-- The settled state (R74). -/
def LineRec.settledState (r : LineRec) : RecState := if r.finished then .complete else .armed

/-- A record placed in its settled state. -/
def LineRec.settled (r : LineRec) : LineRec := { r with state := r.settledState }

/-! ### The velocity test (R98, R99) -/

/-- ΔP16: the newest less the oldest while the ring holds 17 positions. -/
def Traverse.dp16 (t : Traverse) : Option Int :=
  if t.ring.length = Config.positionRingDepth then
    some (t.ring.getLastD 0 - t.ring.headD 0)
  else none

/-- The speed reaches a threshold in µm/s: 5 × |ΔP16| ≥ 8 × T. -/
def reaches (dp threshold : Int) : Bool := decide (8 * threshold ≤ 5 * mag dp)

/-- The direction of a nonzero ΔP16 (R99). -/
def dirOf (dp : Int) : Dir := if 0 < dp then .fwd else .bwd

/-! ### Output lines -/

/-- WIN: RUNNING, and the real-time position lies in the window of a record eligible in the pass direction (R106). -/
def State.win (s : State) : Bool :=
  s.active && s.running &&
  (match s.trav.dir, s.tracks.rt with
    | some d, some p => s.table.records.any fun r => r.contains p && r.eligible d
    | _, _ => false)

/-- A source is pending (R149). -/
def Source.pending (x : Source) : Bool := x.raised.isSome

/-- ATTN: some pending source has a level above the threshold (R152); released while a reset is taking effect (R148). -/
def State.attn (s : State) : Bool :=
  s.active && s.att.sources.toList.any fun x => x.pending && decide (s.att.threshold < x.level)

/-- MSTOP: some pending source has action STOP (R153); released while a reset is taking effect (R148). -/
def State.mstop (s : State) : Bool :=
  s.active && s.att.sources.toList.any fun x => x.pending && decide (x.action = .stop)

/-- RDY: high but in HOLDING (R167). -/
def State.rdy (s : State) : Bool :=
  match s.port.link with
  | .holding _ => false
  | _ => true

/-! ### Conditions and the first source (R146, R155) -/

/-- The detail of ENV_STALE: the age, or NEVER when the record has never held both a pressure and an air temperature
(R53, R156). -/
def Comp.staleDetail (c : Comp) : Detail :=
  .envStale (if c.env.p.isSome ∧ c.env.tAir.isSome then some c.judgedAge else none)

/-- The raising that a condition source makes again at an acknowledgement, where its condition holds (R146, R156). -/
def State.conditionDetail (s : State) (i : Fin 16) : Option Detail :=
  if h : i.val < 4 then
    if (s.chan ⟨i.val, h⟩).state = .lost then some (.lost ⟨i.val, h⟩ (s.chan ⟨i.val, h⟩).loss) else none
  else if i = 6 then
    if s.comp.stale then some s.comp.staleDetail else none
  else none

/-- The better of two candidates for the first source: the higher level, and the one held already on a tie. -/
def State.better (s : State) (best : Option (Fin 16)) (i : Fin 16) : Option (Fin 16) :=
  if (s.source i).pending then
    match best with
    | none => some i
    | some b => if (s.source b).level < (s.source i).level then some i else some b
  else best

/-- The first source: the pending source of highest level, the lowest number among equals (R155). -/
def State.firstSource (s : State) : Option (Fin 16) := (List.finRange 16).foldl s.better none

end Sys2Proof.Machine
end

