-- ==== Sys2Proof/Machine/Position.lean ====
section
/-! DEFINITION. The position path (R63 to R69): length factor, length, datum path correction, blend, thermal
normalisation and saturation, the positions of the two tracks, and the step of the applied values (R59, R61). -/

namespace Sys2Proof.Machine

/-- The length factor M (R63). -/
def lengthFactor (lambda passK nu : Int) : Int :=
  divNearest (lambda * 131072 * 1000000) (passK * (1000000000 + nu))

/-- M of a channel as R63 forms it from the channel's λ and K and the index applied. -/
def State.factorOf (s : State) (c : Fin 4) : Int :=
  lengthFactor (s.chan c).lambda (s.chan c).passK s.comp.nuApplied

/-- M of one channel recomputed (R63). -/
def State.refactor (s : State) (c : Fin 4) : State :=
  { s with comp := { s.comp with factors := s.comp.factors.set c (s.factorOf c) } }

/-- M of every channel recomputed (R63). -/
def State.refactorAll (s : State) : State :=
  { s with comp := { s.comp with
      factors := #v[s.factorOf 0, s.factorOf 1, s.factorOf 2, s.factorOf 3] } }

/-- The eighth-count at a count (R16). -/
def eighth (q origin : Int) : Int := 8 * q - origin

/-- Stage 2: the length of an eighth-count (R65). -/
def lengthOf (e m : Int) : Int := divNearest (e * m) (2 ^ 32)

/-- The datum path correction (R66). -/
def datumCorrection (d nuApplied nu0 : Int) : Int := divZero (d * (nuApplied - nu0)) 1000

/-- Stages 2 and 3 of a channel: L' (R65, R66). -/
def State.corrected (s : State) (c : Fin 4) (e : Int) : Int :=
  lengthOf e s.comp.factors[c] - datumCorrection (s.chan c).datum s.comp.nuApplied (s.chan c).nu0

/-- Stage 4: the blend (R67). -/
def blend (rb l0 l1 : Int) : Int := l0 + divNearest ((l1 - l0) * rb) 65536

/-- Stage 5: thermal normalisation to 20 °C; no correction while the scale temperature applied is absent (R68). -/
def thermal (alpha : Int) (t : Option Int) (p : Int) : Int :=
  match t with
  | none => p
  | some t => p - divNearest (p * alpha * (t - 20000)) (10 ^ 12)

/-- Stage 6: saturation (R69). -/
def saturate (p : Int) : Int := clamp (-Config.positionMax) Config.positionMax p

/-- Stages 2 to 6 from the eighth-counts of MEASURE and, when one is assigned, PARTNER (R64). -/
def State.position (s : State) (eM eP : Int) : Int :=
  let l0 := s.corrected 0 eM
  let p := match s.partner with
    | none => l0
    | some c => blend s.comp.rb l0 (s.corrected c eP)
  saturate (thermal s.comp.alpha s.comp.tApplied p)

/-- The count of a channel at a sample: the history's, or the Q it holds where the history has no entry; of a channel that is
OFF, its frozen Q (R64). -/
def Channel.qAt (ch : Channel) (k : Nat) : Int :=
  if ch.state = .off then ch.q
  else match ch.entry k with
    | some e => e.q
    | none => ch.q

/-- The eighth-count of a channel at a sample, with the origin in force (R16). -/
def Channel.eighthAt (ch : Channel) (k : Nat) : Int := eighth (ch.qAt k) ch.origin

/-- The PARTNER's eighth-count at a sample; without a PARTNER it is not used. -/
def State.partnerEighth (s : State) (k : Nat) : Int :=
  match s.partner with
  | none => 0
  | some c => (s.chan c).eighthAt k

/-- The registered position of a sample on either track (R64). -/
def State.trackPosition (s : State) (k : Nat) : Int := s.position (s.measure.eighthAt k) (s.partnerEighth k)

/-- The samples below this number have been counted by MEASURE and, where R64 waits for it, by PARTNER: it does not wait
for a PARTNER that is OFF, or was OFF when MEASURE counted the sample. -/
def State.countedBoth (s : State) : Nat :=
  match s.partner with
  | none => s.measure.next
  | some c =>
    if (s.chan c).state = .off then s.measure.next
    else min s.measure.next (max (s.chan c).onAt (s.chan c).next)

/-- Sample `k` is of the channel's present run: not before the first sample counted since the latest CHANNEL_ON (R18). -/
def Channel.inRun (ch : Channel) (k : Nat) : Bool :=
  match ch.first with
  | none => false
  | some first => decide (first ≤ k)

/-- The real-time track takes the newest sample that MEASURE, in its present run, and PARTNER have each counted (R64); while
MEASURE is OFF it forms no position. -/
def State.formRealTime (s : State) : State :=
  if s.measure.state ≠ .off ∧ s.tracks.rtCount < s.countedBoth ∧ s.measure.inRun (s.countedBoth - 1) then
    { s with tracks := { s.tracks with
        rt := some (s.trackPosition (s.countedBoth - 1))
        rtCount := s.countedBoth } }
  else s

/-- At a sample counted the aligned track becomes due up to the newest sample less the lag (R113). -/
def State.advanceAligned (s : State) : State :=
  if s.measure.state ≠ .off then
    { s with tracks := { s.tracks with
        alignedLimit := max s.tracks.alignedLimit (s.countedBoth - s.eng.lag) } }
  else s

/-- Both tracks after a sample counted by MEASURE or PARTNER, or a PARTNER switched OFF. -/
def State.advanceTracks (s : State) : State := s.formRealTime.advanceAligned

/-- The velocity ring of the traverse controller emptied (R98). -/
def State.emptyRing (s : State) : State := { s with trav := { s.trav with ring := [] } }

/-- The applied index and scale temperature set to new values; a change of either empties the velocity ring (R98). -/
def State.applyValues (s : State) (nu : Int) (t : Option Int) : State :=
  let s' := { s with comp := { s.comp with nuApplied := nu, tApplied := t } }
  if nu ≠ s.comp.nuApplied ∨ t ≠ s.comp.tApplied then s'.emptyRing else s'

/-- The scale temperature applied stepped to its target, when that is present (R59, R61). -/
def Comp.steppedT (c : Comp) : Option Int :=
  match c.tTarget with
  | none => c.tApplied
  | some t => some t

/-- The step of a PASS-HOLD pass end (R61). -/
def State.passHoldStep (s : State) : State :=
  if s.comp.forcePolicy = .passHold then (s.applyValues s.comp.nuTarget s.comp.steppedT).refactorAll else s

end Sys2Proof.Machine
end

