-- ==== Sys2Proof/Machine/Images.lean ====
section
/-! DEFINITION. The statistics of a record (R136 to R141) and the byte layouts of the response images and of the attention
summary (R181 to R183), with the CRC of a response (R168). -/

namespace Sys2Proof.Machine

/-! ### Fields (R177) -/

/-- An unsigned field of `n` bytes. -/
def uField (n : Nat) (v : Nat) : List Byte := toLE n v

/-- A signed field of `n` bytes, in two's complement. -/
def sField (n : Nat) (v : Int) : List Byte := toLE n (v % (256 ^ n : Nat)).toNat

/-- A flag byte, bit 0 first. -/
def flagField (n : Nat) (bs : List Bool) : List Byte := toLE n (bitsToNat bs)

/-- A signed field that may be absent: zeros when it is. -/
def sOpt (n : Nat) (v : Option Int) : List Byte := sField n (v.getD 0)

/-! ### Statistics (R137 to R141) -/

/-- The mean, rounded once (R138). -/
def Acc.mean (a : Acc) : Option Int := if a.n = 0 then none else some (divAway a.sum a.n)

/-- The standard deviation: the greatest s with s² × n × (n − 1) ≤ n × sum of squares − sum² (R139). -/
def Acc.deviation (a : Acc) : Option Int :=
  if a.n < 2 then none
  else some (greatest (fun s => decide ((s * s * a.n * (a.n - 1 : Nat) : Nat) ≤ a.n * a.sumSq - a.sum * a.sum)) 32 0 : Nat)

/-- The exact centre as a fraction: numerator and positive denominator (R140). -/
def LineRec.centreFraction (r : LineRec) : Option (Int × Int) :=
  if r.accF.n = 0 then
    if r.accB.n = 0 then none else some (r.accB.sum, r.accB.n)
  else if r.accB.n = 0 then some (r.accF.sum, r.accF.n)
  else some (r.accF.sum * r.accB.n + r.accB.sum * r.accF.n, 2 * r.accF.n * r.accB.n)

/-- The centre of the result image (R140). -/
def LineRec.centre (r : LineRec) : Option Int := r.centreFraction.map fun f => divAway f.1 f.2

/-- The bias of the result image (R140). -/
def LineRec.bias (r : LineRec) : Option Int :=
  if r.accF.n = 0 ∨ r.accB.n = 0 then none
  else some (divAway (r.accF.sum * r.accB.n - r.accB.sum * r.accF.n) (2 * r.accF.n * r.accB.n))

/-- The interval from one line to another, from their exact centres, rounded once (R141). -/
def interval (a b : LineRec) : Option Int :=
  match a.centreFraction, b.centreFraction with
  | some (na, da), some (nb, db) => some (divAway (((b.n - a.n) * da * db) + nb * da - na * db) (da * db))
  | _, _ => none

/-! ### Record, result and interval images (R181) -/

def Acc.bytes (a : Acc) : List Byte :=
  uField 2 a.n ++ sField 6 a.sum ++ uField 9 a.sumSq.toNat ++ sOpt 4 (a.ext.map MinMax.min) ++
    sOpt 4 (a.ext.map MinMax.max)

def Rejects.bytes (c : Rejects) : List Byte :=
  uField 1 c.miss ++ uField 1 c.double ++ uField 1 c.reversal ++ uField 1 c.width ++ uField 1 c.coast ++
    uField 1 c.interrupted

def lastBytes (l : Option LastCapture) : List Byte :=
  match l with
  | none => List.replicate 9 0
  | some l => sField 4 l.dev ++ uField 4 l.pass ++ uField 1 l.dir.code

/-- The record is the occupied record (R88). -/
def State.occupied (s : State) (r : LineRec) : Bool :=
  match s.eng.occ with
  | none => false
  | some o => decide (o.label = r.label)

/-- The record image, 84 bytes; `inside` is set by FIND_POSITION alone (R181). -/
def recordImage (s : State) (r : LineRec) (inside : Bool) : List Byte :=
  uField 2 r.label ++ sField 6 r.n ++ sField 4 r.w ++ uField 2 r.quotaF ++ uField 2 r.quotaB ++ uField 1 r.state.code ++
  flagField 1 [s.occupied r, r.last.isSome, r.accF.ext.isSome, r.accB.ext.isSome, inside] ++ uField 1 r.misses ++
  r.rejects.bytes ++ r.accF.bytes ++ r.accB.bytes ++ lastBytes r.last

/-- A direction of the result image, 20 bytes. -/
def directionBytes (quota : Nat) (a : Acc) : List Byte :=
  uField 2 quota ++ uField 2 a.n ++ sOpt 4 a.mean ++ sOpt 4 a.deviation ++ sOpt 4 (a.ext.map MinMax.min) ++
    sOpt 4 (a.ext.map MinMax.max)

/-- The result image, 69 bytes (R136, R181). -/
def resultImage (s : State) (r : LineRec) : List Byte :=
  uField 2 r.label ++ uField 1 r.state.code ++
  flagField 2 [s.occupied r, r.accF.mean.isSome, r.accF.deviation.isSome, r.accF.ext.isSome, r.accB.mean.isSome,
    r.accB.deviation.isSome, r.accB.ext.isSome, r.centre.isSome, r.bias.isSome, r.last.isSome] ++
  directionBytes r.quotaF r.accF ++ directionBytes r.quotaB r.accB ++ sOpt 4 r.centre ++ sOpt 4 r.bias ++
  lastBytes r.last ++ uField 1 r.misses ++ r.rejects.bytes

/-- The interval image, 21 bytes (R141, R181). -/
def intervalImage (a b : LineRec) : List Byte :=
  uField 2 a.label ++ uField 2 b.label ++ uField 2 a.accF.n ++ uField 2 a.accB.n ++ uField 2 b.accF.n ++
    uField 2 b.accB.n ++ flagField 1 [(interval a b).isSome] ++ sOpt 8 (interval a b)

/-! ### Block images (R182) -/

/-- The channel image, 29 bytes (R23): L' is formed from the latest Q. -/
def channelImage (s : State) (c : Fin 4) : List Byte :=
  let ch := s.chan c
  uField 1 c.val ++ uField 1 ch.state.name.code ++ uField 1 ch.loss.code ++
  flagField 1 [ch.referenced, ch.beam, ch.sat] ++ sField 5 ch.q ++ sField 6 ch.origin ++
  sField 8 (s.corrected c (eighth ch.q ch.origin)) ++ uField 2 ch.r.toNat ++ uField 2 ch.phi.toNat ++ sField 2 ch.v16

/-- The compensation image, 60 bytes (R70). -/
def compensationImage (s : State) : List Byte :=
  let c := s.comp
  uField 1 c.source.code ++
  flagField 1 [c.fresh, c.anchor.isSome, c.env.tAir.isSome, c.env.tScale.isSome, c.env.p.isSome, c.env.e.isSome,
    c.tApplied.isSome, s.partner.isSome] ++
  sField 4 c.nuTarget ++ sField 4 c.nuApplied ++ sOpt 4 c.env.tAir ++ sOpt 4 c.env.tScale ++ sOpt 4 c.env.p ++
  sOpt 4 c.env.e ++ uField 4 c.age ++ sOpt 4 (c.anchor.map TrackerAnchor.nu) ++ sOpt 5 (c.anchor.map TrackerAnchor.q) ++
  sOpt 4 c.tApplied ++ sField 8 c.factors[0] ++
  (match s.partner with
    | none => List.replicate 9 0
    | some p => sField 8 c.factors[p] ++ uField 1 p.val)

/-- Bytes 27 to 36 of the traverse image: the occupancy (R131, R182). -/
def occBytes (o : Option Occ) : List Byte :=
  match o with
  | none => List.replicate 10 0
  | some o =>
    uField 2 o.label ++ uField 1 o.side.code ++ uField 1 o.outcome.code ++
    (match o.outcome with
      | .none => List.replicate 5 0
      | .provisional dev _ => sField 4 dev ++ uField 1 0
      | .spoiled r => List.replicate 4 0 ++ uField 1 r.code) ++
    (match o.pending with
      | none => uField 1 0
      | some side => uField 1 side.code)

/-- The occupancy has an exit pending. -/
def exitPending (o : Option Occ) : Bool :=
  match o with
  | none => false
  | some o => o.pending.isSome

/-- The traverse image, 37 bytes (R107). -/
def traverseImage (s : State) : List Byte :=
  let t := s.trav
  uField 1 t.ctl.code ++
  flagField 1 [t.counted, t.dir.isSome, t.latest.isSome, t.dp16.isSome, s.eng.home, s.eng.occ.isSome,
    s.eng.pulse.isSome, exitPending s.eng.occ] ++
  uField 2 t.remaining ++ uField 4 t.passNo ++
  (match t.dir with
    | none => uField 1 0
    | some d => uField 1 d.code) ++
  uField 2 t.broken ++ sOpt 6 t.latest ++ sOpt 8 t.dp16 ++ uField 2 s.eng.strays ++ occBytes s.eng.occ

/-- Twelve bytes of extremes: zeros when absent. -/
def extremesBytes (e : Option Extremes) : List Byte :=
  match e with
  | none => List.replicate 12 0
  | some e =>
    sField 2 e.xMin ++ sField 2 e.xMax ++ sField 2 e.yMin ++ sField 2 e.yMax ++ uField 2 e.rMin.toNat ++
      uField 2 e.rMax.toNat

/-- Bytes 7 to 28 of the probe image. -/
def probeResultBytes (r : Option ProbeResult) : List Byte :=
  match r with
  | none => List.replicate 22 0
  | some r =>
    flagField 1 [true, r.ext.isSome, r.mean.isSome] ++ uField 1 r.ch.val ++ uField 1 r.k ++ uField 1 r.aborted.toNat ++
      uField 4 r.taken ++ extremesBytes r.ext ++ uField 2 (r.mean.getD 0).toNat

/-- The probe image, 29 bytes (R45). -/
def probeImage (p : Probe) : List Byte :=
  (match p.run with
    | none => List.replicate 7 0
    | some run => uField 1 1 ++ uField 1 run.ch.val ++ uField 1 run.k ++ uField 4 run.taken) ++
  probeResultBytes p.result

/-! ### The attention summary (R154, R183) -/

/-- The bytes of a detail word that its layout uses. -/
def Detail.used : Detail → List Byte
  | .lost _ r => uField 1 r.code
  | .bridge ch d => uField 1 ch.val ++ sField 2 d
  | .saturate ch => uField 1 ch.val
  | .envStale (some age) => uField 1 0 ++ uField 4 age
  | .envStale none => uField 1 1 ++ uField 4 0
  | .envClamp a b c d => flagField 1 [a, b, c, d]
  | .homeDone none => uField 1 1
  | .homeDone (some c) => uField 1 (1 + 2 ^ c.val)
  | .passEnd n d k => uField 4 n ++ uField 1 d.code ++ uField 1 k.code
  | .planDone stopped => uField 1 stopped.toNat
  | .recComplete l => uField 2 l
  | .reject l r => uField 2 l ++ uField 1 r.code
  | .stray none => uField 6 0
  | .stray (some p) => sField 6 p
  | .probeDone ch a => uField 1 ch.val ++ uField 1 a.toNat
  | .linkFault r c => uField 1 (linkReasonCode r) ++ [c]

/-- A detail word: eight bytes, those unused zeros. -/
def Detail.word (d : Detail) : List Byte := d.used ++ List.replicate (8 - d.used.length) 0

/-- A source's entry, 9 bytes: zeros when it is not pending. -/
def Source.bytes (x : Source) : List Byte :=
  match x.raised with
  | none => List.replicate 9 0
  | some r => uField 1 r.count ++ r.detail.word

/-- The attention summary, 148 bytes. -/
def attentionImage (s : State) : List Byte :=
  flagField 2 (s.att.sources.toList.map Source.pending) ++
  (match s.firstSource with
    | none => [0xFF#8]
    | some i => uField 1 i.val) ++
  flagField 1 [s.attn, s.mstop] ++ s.att.sources.toList.flatMap Source.bytes

/-! ### Responses on the link (R168, R178) -/

/-- The bytes of a response: status, length, payload and CRC. -/
def Response.bytes (r : Response) : List Byte :=
  let body := r.status.code :: BitVec.ofNat 8 r.payload.length :: r.payload
  body ++ [crc body]

end Sys2Proof.Machine
end

