-- ==== Sys2Proof/Machine/Pass.lean ====
section
/-! DEFINITION. The end of a pass (R104, R105, R125) and a raising in full (R149, R150): the two shared operations by
which every block acts on a running pass. -/

namespace Sys2Proof.Machine

/-- The occupancy held becomes SPOILED with a reason; a SPOILED outcome keeps its first reason (R121). -/
def State.spoil (s : State) (reason : Reject) : State :=
  match s.eng.occ with
  | none => s
  | some o =>
    match o.outcome with
    | .spoiled _ => s
    | _ => { s with eng := { s.eng with occ := some { o with outcome := .spoiled reason } } }

/-- An open pulse is discarded without a strobe, and spoils the occupancy held (R118). -/
def State.dropPulse (s : State) (reason : Reject) : State :=
  match s.eng.pulse with
  | none => s
  | some _ => { s with eng := { s.eng with pulse := none } }.spoil reason

/-- A miss or reject counted against the record of a label (R127), without the raising of REJECT. -/
def State.tally (s : State) (label : Nat) (reason : Reject) : State :=
  { s with table := s.table.modify label (LineRec.tally s.eng.missLimit reason) }

/-- The occupancy absent. -/
def State.vacate (s : State) : State := { s with eng := { s.eng with occ := none } }

/-- The reason that an occupancy counts at a pass end (R105, R125). -/
def Occ.endReason (o : Occ) (kind : EndKind) : Reject :=
  match o.outcome with
  | .spoiled r => r
  | _ => if kind = .turn then .reversal else .interrupted

/-- The occupancy closed by a pass end: a pending exit is not taken (R105, R125). The raising breaks nothing, since the
controller is already out of RUNNING. -/
def State.closeOccupancy (s : State) (kind : EndKind) : State :=
  match s.eng.occ with
  | none => s
  | some o => ((s.vacate).tally o.label (o.endReason kind)).note (.reject o.label (o.endReason kind))

/-- The broken count after a pass end (R105 step 4). -/
def brokenAfter (kind : EndKind) (n : Nat) : Nat := if kind = .broken then satInc 65535 n else n

/-- A pass end counts toward a counted plan with a nonzero remaining count (R105 step 5). -/
def Traverse.debited (t : Traverse) (kind : EndKind) : Bool :=
  t.counted && decide (kind ≠ .broken) && decide (t.remaining ≠ 0)

/-- Steps 4 and 5 of R105: the broken count and the plan. Within a STOP_PLAN no plan completes (R96). -/
def State.accountPlan (s : State) (kind : EndKind) (inStop : Bool) : State :=
  let t := { s.trav with broken := brokenAfter kind s.trav.broken }
  if s.trav.debited kind then
    if s.trav.remaining = 1 ∧ inStop = false then
      { s with trav := { t with remaining := 0, ctl := .idle } }.note (.planDone false)
    else { s with trav := { t with remaining := s.trav.remaining - 1 } }
  else { s with trav := t }

/-- The controller leaves RUNNING for WAITING (R105 step 1). -/
def State.leaveRunning (s : State) : State := { s with trav := { s.trav with ctl := .waiting } }

/-- A pass end with its six effects (R105); without a running pass it ends nothing. -/
def State.endPass (s : State) (kind : EndKind) (inStop : Bool) : State :=
  if s.running then
    (((((s.leaveRunning).dropPulse .interrupted).closeOccupancy kind).passHoldStep).accountPlan kind inStop).note
      (.passEnd s.trav.passNo (s.trav.dir.getD .fwd) kind)
  else s

/-- A raising in full (R149, R150): noted by the attention unit, and breaking a running pass when the source's action is
BREAK or STOP. -/
def State.raise (s : State) (d : Detail) : State :=
  if (s.source d.source).action ≠ .none then (s.note d).endPass .broken false else s.note d

end Sys2Proof.Machine
end

