-- ==== Sys2Proof/Machine/AttentionRequests.lean ====
section
/-! DEFINITION. The attention unit's requests (chapter 8): SET_ATTENTION, READ_ATTENTION and ACKNOWLEDGE. -/

namespace Sys2Proof.Machine

/-! ### SET_ATTENTION (R147) -/

/-- The item that a list carries for source `i`. -/
def itemOf (items : List (Option Byte)) (i : Fin 16) : Option Byte := items.getD i.val none

/-- A present action names nothing. -/
def badAction (items : List (Option Byte)) : Bool :=
  items.any fun b => match b with
    | none => false
    | some b => decide (actionOf b = none)

/-- A source with the level, clamped to 7, and the action that the request carries for it. -/
def SetAttentionReq.source (q : SetAttentionReq) (i : Fin 16) (x : Source) : Source :=
  { x with
    level := match itemOf q.levels i with
      | none => x.level
      | some b => min 7 b.toNat
    action := ((itemOf q.actions i).bind actionOf).getD x.action }

/-- The attention unit after a SET_ATTENTION. -/
def SetAttentionReq.apply (q : SetAttentionReq) (a : Attention) : Attention where
  threshold := match q.threshold with
    | none => a.threshold
    | some b => min 7 b.toNat
  sources := a.sources.mapFinIdx fun i x h => SetAttentionReq.source q ⟨i, h⟩ x

/-- A present threshold or level lies above 7. -/
def SetAttentionReq.clamps (q : SetAttentionReq) : Bool :=
  (q.threshold :: q.levels).any fun b => match b with
    | none => false
    | some b => decide (7 < b.toNat)

/-- The checks and effects of SET_ATTENTION: no pending flag, count or detail changes, and no pass is broken. -/
def setAttention (q : SetAttentionReq) (s : State) : State × Response :=
  if q.unlisted ≠ 0 then refuse .range s
  else if badAction q.actions then refuse .range s
  else ({ s with att := SetAttentionReq.apply q s.att }, accepted (SetAttentionReq.clamps q))

/-- SET_ATTENTION. -/
def execSetAttention (q : SetAttentionReq) (s : State) : Host.Outcome State Fault Refusal :=
  complete (.setAttention q) (setAttention q) s

/-! ### READ_ATTENTION (R154) -/

/-- READ_ATTENTION. -/
def execReadAttention (s : State) : Host.Outcome State Fault Refusal :=
  complete .readAttention (fun s => image (attentionImage s) s) s

/-! ### ACKNOWLEDGE (R156) -/

/-- The sources of the set cleared. -/
def State.clearSources (s : State) (set : BitVec 16) : State :=
  { s with att := { s.att with
      sources := s.att.sources.mapFinIdx fun i x _ => if set.getLsbD i then { x with raised := none } else x } }

/-- A condition source of the set whose condition holds is raised again. -/
def State.raiseAgain (set : BitVec 16) (s : State) (i : Fin 16) : State :=
  if set.getLsbD i.val then
    match s.conditionDetail i with
    | none => s
    | some d => s.raise d
  else s

/-- The effects of ACKNOWLEDGE: the whole set is cleared, then the condition sources of the set are raised again in
ascending number. -/
def acknowledge (set : BitVec 16) (s : State) : State × Response :=
  ((List.finRange 16).foldl (State.raiseAgain set) (s.clearSources set), accepted false)

/-- ACKNOWLEDGE. -/
def execAcknowledge (set : BitVec 16) (s : State) : Host.Outcome State Fault Refusal :=
  complete (.acknowledge set) (acknowledge set) s

end Sys2Proof.Machine
end

