-- ==== Sys2Proof/Machine/Channel.lean ====
section
/-! DEFINITION. What a channel does with one sample, as a function of the channel alone (chapters 1 and 2): input,
correction, phase and radius, judgement and saturation watch, count, velocity ring and history. -/

namespace Sys2Proof.Machine

/-! ### Angles, exactly (R5, R8) -/

/-- The first `n` binary digits, after the point, of the angle of the point (x, y√m) in full turns. Each squaring of
x + iy√m doubles the angle, and the digit is 1 when the angle is at least half a turn. All integers, so no angle is
approximated. -/
def turnDigits (m : Int) : Nat → Int → Int → Nat → Nat
  | 0, _, _, acc => acc
  | n + 1, x, y, acc =>
    turnDigits m n (x * x - m * (y * y)) (2 * (x * y)) (2 * acc + if y < 0 ∨ (y = 0 ∧ x < 0) then 1 else 0)

/-- The phase of a point other than the origin: 4096 × θ / 2π rounded nearest, taken modulo 4096 (R8). The thirteen digits
are the whole part of 8192 × θ / 2π, and nearest of v is the whole part of (⌊2v⌋ + 1) / 2. -/
def phaseOf (x y : Int) : Int := (((turnDigits 1 13 x y 0 + 1) / 2) % 4096 : Nat)

/-- 16,384 × cos(2π × k / 4096) rounded nearest, for k in 0..4095 (R5): the greatest n with cos ≥ (2n − 1) / 32768. The
cosine is at least c / 32768 when the angle, folded into half a turn, is at most that of (c, √(32768² − c²)). -/
def synCos (k : Int) : Int :=
  let folded := if k ≤ 2048 then k else 4096 - k
  let test : Nat → Bool := fun i =>
    let c : Int := 2 * ((i : Int) - 16384) - 1
    if c ≤ -32768 then true
    else if 32768 ≤ c then false
    else decide (folded ≤ (turnDigits (32768 * 32768 - c * c) 12 c 1 0 : Nat))
  (greatest test 16 0 : Nat) - 16384

/-- 16,384 × sin(2π × k / 4096) rounded nearest (R5). -/
def synSin (k : Int) : Int := synCos ((k - 1024) % 4096)

/-! ### Stages 1 to 3 (R4 to R9) -/

/-- A sample as stages 1 to 3 leave it. -/
structure Point where
  x : Int
  y : Int
  phi : Int
  r : Int
  ovr : Bool
deriving DecidableEq, Repr

/-- Stages 1 and 2 of R6: x and its gain. -/
def Codes.gained (c : Codes) (cos : Int) : Int := divDown ((cos - c.offC) * (32768 + c.g)) 65536

/-- Stage 3 of R6, with the x′ of stage 2 before its clamp. -/
def Codes.squared (c : Codes) (sin x' : Int) : Int :=
  divDown ((sin - c.offS) * (65536 + c.hs) - x' * c.p) 65536

/-- The corrected pair, clamped (R6 stage 4). -/
def Codes.correct (c : Codes) (sin cos : Int) : Int × Int :=
  (clamp (-32768) 32767 (c.gained cos), clamp (-32768) 32767 (c.squared sin (c.gained cos)))

/-- The integer square root of x² + y², rounded downward (R9). -/
def radiusOf (x y : Int) : Int :=
  (greatest (fun r => decide ((r : Int) * r ≤ x * x + y * y)) 16 0 : Nat)

/-- A PORT sample: a zero point takes the channel's last phase (R9). -/
def portPoint (c : Codes) (phiOld : Int) (x : SampleIn) : Point :=
  let xy := c.correct x.sin.toInt x.cos.toInt
  { x := xy.1
    y := xy.2
    phi := if xy.1 = 0 ∧ xy.2 = 0 then phiOld else phaseOf xy.1 xy.2
    r := radiusOf xy.1 xy.2
    ovr := x.ovr }

/-- A SYNTH sample at a synthetic phase (R5). -/
def synPoint (phase : Int) : Point := ⟨synCos phase, synSin phase, phase, 16384, false⟩

/-- The synthetic phase after it advances by the step (R5). -/
def Channel.synAdvanced (ch : Channel) : Int := (ch.synPhase + ch.step) % 4096

/-- Stages 1 to 3 of a sample (R4). -/
def Channel.point (ch : Channel) (x : SampleIn) : Point :=
  match ch.source with
  | .port => portPoint ch.codes ch.phiOld x
  | .synth => synPoint ch.synAdvanced

/-! ### Stage 4: judgement and saturation watch (R25, R39, R40) -/

/-- Dark (R25). -/
def MonSet.dark (m : MonSet) (r : Int) : Bool := decide (r < m.rLow)

/-- Strong (R25). -/
def MonSet.strong (m : MonSet) (r : Int) : Bool := decide (m.rLow + m.rHyst ≤ r)

/-- Over (R39). -/
def MonSet.isOver (m : MonSet) (p : Point) : Bool := decide (m.rHigh < p.r) || p.ovr

/-- Calm (R39). -/
def MonSet.calm (m : MonSet) (p : Point) : Bool := decide (p.r ≤ m.rHigh - m.rHyst) && !p.ovr

/-- The settle run after a sample in SETTLING or LOST (R29, R37). -/
def Channel.settleNext (ch : Channel) (p : Point) : Nat := if ch.mon.strong p.r then ch.settleRun + 1 else 0

/-- The over run after a sample while the saturation flag is clear (R39). -/
def Channel.overNext (ch : Channel) (p : Point) : Nat := if ch.mon.isOver p then ch.overRun + 1 else 0

/-- The calm run after a sample while the saturation flag is set (R40). -/
def Channel.calmNext (ch : Channel) (p : Point) : Nat := if ch.mon.calm p then ch.calmRun + 1 else 0

/-- The sample sets the saturation flag (R39). -/
def Channel.setsSat (ch : Channel) (p : Point) : Bool :=
  !ch.sat && ch.mon.isOver p && decide (ch.mon.nd ≤ ch.overNext p)

/-- The sample clears the saturation flag (R40). -/
def Channel.clearsSat (ch : Channel) (p : Point) : Bool :=
  ch.sat && ch.mon.calm p && decide (ch.mon.nr ≤ ch.calmNext p)

/-- The saturation watch (R39, R40). -/
def Channel.watchSat (ch : Channel) (p : Point) : Channel :=
  if ch.sat then
    if ch.clearsSat p then { ch with sat := false, calmRun := 0 } else { ch with calmRun := ch.calmNext p }
  else
    if ch.setsSat p then { ch with sat := true, overRun := 0, calmRun := 0 } else { ch with overRun := ch.overNext p }

/-- The beam flag takes the judgement (R25). -/
def Channel.judged (ch : Channel) (p : Point) : Channel := { ch with beam := !ch.mon.dark p.r }

/-! ### Stages 5 and 6: the count and the velocity ring (R10 to R14, R29 to R34) -/

/-- A phase difference taken in −2048..2047 (R11, R33). -/
def wrapped (d : Int) : Int := (d + 2048) % 4096 - 2048

/-- A contribution entered in the velocity ring (R14). -/
def pushRing (ring : List Int) (x : Int) : List Int := ring.drop 1 ++ [x]

/-- What the count of one sample finds, beside the channel it leaves: a loss, or the d of a bridge with its dropout
length. -/
structure Counted where
  ch : Channel
  lost : Option Loss
  bridge : Option (Int × Int)
deriving DecidableEq, Repr

/-- The range limit on the side of an excursion (R13). -/
def limited (q : Int) : Int := if q < 0 then -Config.qMax else Config.qMax

/-- A count passes the count range (R13). -/
def outOfRange (q : Int) : Bool := decide (Config.qMax < mag q)

/-- Entry into LOST (R36) with the count left at `q`, counted with the LOST row of R10. -/
def Channel.lose (ch : Channel) (reason : Loss) (phi q : Int) : Counted where
  ch := { ch with
    q := q
    phiOld := phi
    ring := pushRing ch.ring 0
    state := .lost
    loss := reason
    referenced := false
    settleRun := 0 }
  lost := some reason
  bridge := none

/-- A bright TRACKING sample: unwrap, speed limit and count range (R11 to R13). -/
def Channel.unwrap (ch : Channel) (phi : Int) : Counted :=
  let delta := wrapped (phi - ch.phiOld)
  let q := ch.q + ch.sense.toInt * delta
  if ch.mon.limit < mag delta then ch.lose .overspeed phi ch.q
  else if outOfRange q then ch.lose .range phi (limited q)
  else
    { ch := { ch with
        q := q
        phiOld := phi
        ring := pushRing ch.ring (ch.sense.toInt * delta)
        state := .tracking }
      lost := none
      bridge := none }

/-- The settle length in samples (R29). -/
def MonSet.settleLength (m : MonSet) : Int := m.tSettle * 10000

/-- The sample completes the settle (R29, R37). -/
def Channel.settles (ch : Channel) (p : Point) : Bool :=
  ch.mon.strong p.r && decide (ch.mon.settleLength ≤ ch.settleNext p)

/-- A sample in SETTLING or LOST (R29, R37). -/
def Channel.settleStep (ch : Channel) (p : Point) : Counted :=
  if ch.settles p then ({ ch with settleRun := 0, state := .tracking }).unwrap p.phi
  else
    { ch := { ch with settleRun := ch.settleNext p, phiOld := p.phi, ring := pushRing ch.ring 0 }
      lost := none
      bridge := none }

/-- The extrapolated count of a coast (R32). -/
def CoastAnchor.count (a : CoastAnchor) : Int := a.qStart + divDown (a.len * a.va) 16

/-- A coast sample that is extrapolated (R32). -/
def Channel.extrapolate (ch : Channel) (a : CoastAnchor) (phi : Int) : Counted :=
  if outOfRange a.count then ch.lose .range phi (limited a.count)
  else { ch := { ch with q := a.count, state := .coasting a }, lost := none, bridge := none }

/-- The coast anchor formed at the first dark sample (R31). -/
def Channel.anchorNow (ch : Channel) : CoastAnchor := ⟨ch.q, ch.v16, ch.phiOld, 1, 0⟩

/-- The coast advanced by a sample (R32). -/
def CoastAnchor.advanced (a : CoastAnchor) (strong : Bool) : CoastAnchor :=
  { a with len := a.len + 1, strong := if strong then a.strong + 1 else 0 }

/-- The sample is a check sample (R32 case 1). -/
def Channel.isCheck (ch : Channel) (a : CoastAnchor) (p : Point) : Bool :=
  ch.mon.strong p.r && decide (ch.mon.nr ≤ (a.advanced true).strong)

/-- The coast times out at the sample (R32 case 2, R34). -/
def Channel.isTimeout (ch : Channel) (a : CoastAnchor) (p : Point) : Bool :=
  !ch.isCheck a p && decide (10 * ch.mon.tShort < (a.advanced (ch.mon.strong p.r)).len)

/-- The phase predicted at a check sample (R33). -/
def Channel.predicted (ch : Channel) (a : CoastAnchor) : Int :=
  (a.phiStart + ch.sense.toInt * (a.count - a.qStart)) % 4096

/-- The bridge check (R33, R35): bridge, RANGE or SLIP. -/
def Channel.bridgeStep (ch : Channel) (a : CoastAnchor) (phi : Int) : Counted :=
  let d := wrapped (phi - ch.predicted a)
  let q := a.count + ch.sense.toInt * d
  if ch.mon.tol < mag d then ch.lose .slip phi ch.q
  else if outOfRange q then ch.lose .range phi (limited q)
  else
    { ch := { ch with q := q, phiOld := phi, state := .tracking }
      lost := none
      bridge := some (d, a.len - ch.mon.nr) }

/-- A sample in COASTING (R32 to R34). -/
def Channel.coastStep (ch : Channel) (a : CoastAnchor) (p : Point) : Counted :=
  if ch.isCheck a p then ch.bridgeStep (a.advanced true) p.phi
  else if ch.isTimeout a p then ch.lose .dropout p.phi ch.q
  else ch.extrapolate (a.advanced (ch.mon.strong p.r)) p.phi

/-- A sample in TRACKING (R30): bright, or the first dark sample of a coast. -/
def Channel.trackStep (ch : Channel) (p : Point) : Counted :=
  if ch.mon.dark p.r then ch.extrapolate ch.anchorNow p.phi else ch.unwrap p.phi

/-- Stages 5 and 6 by the channel's state (R10). -/
def Channel.countStep (ch : Channel) (p : Point) : Counted :=
  match ch.state with
  | .off => ⟨ch, none, none⟩
  | .settling => ch.settleStep p
  | .tracking => ch.trackStep p
  | .coasting a => ch.coastStep a p
  | .lost => ch.settleStep p

/-! ### Stage 7 and the whole sample (R4, R15) -/

/-- An entry appended to the history, the oldest removed when 33 are held (R15). -/
def pushHistory (h : List HistEntry) (e : HistEntry) : List HistEntry :=
  if h.length < Config.historyDepth then h ++ [e] else h.drop 1 ++ [e]

/-- The point of the sample and the synthetic phase, as the latest sample leaves them. -/
def Channel.took (ch : Channel) (p : Point) : Channel :=
  { ch with
    x := p.x
    y := p.y
    phi := p.phi
    r := p.r
    synPhase := match ch.source with
      | .port => ch.synPhase
      | .synth => ch.synAdvanced }

/-- The sample numbered and entered in the history with what the channel is left with (R15). -/
def Channel.entered (ch : Channel) (k : Nat) : Channel :=
  { ch with
    history := pushHistory ch.history ⟨k, ch.q, ch.state.name, ch.referenced⟩
    first := some (ch.first.getD k)
    next := k + 1 }

/-- A sample counted, all seven stages (R4), for a channel not OFF. -/
def Channel.count (ch : Channel) (x : SampleIn) : Counted :=
  let p := ch.point x
  let c := (((ch.took p).judged p).watchSat p).countStep p
  { c with ch := c.ch.entered x.k }

/-- The channel may count sample k next: samples are counted in ascending order and none is skipped within a run, whatever
another channel has counted (R3). That the first sample of a run is any one that the channel itself has not counted yet, as the
command says, is the model's choice (entry 7): R15 and R18 leave open which converted sample is the first after the
completion. -/
def Channel.mayCount (ch : Channel) (k : Nat) : Bool :=
  decide (ch.state ≠ .off) &&
  (match ch.first with
    | none => decide (ch.next ≤ k)
    | some _ => decide (k = ch.next))

end Sys2Proof.Machine
end

