-- ==== Sys2Proof/Machine/Registration.lean ====
section
/-! DEFINITION. The registration engine (chapter 6): the latch of an edge, pulses, the order within a segment, occupancy,
commits and HOME; and the commit's arithmetic (R133, R134). -/

namespace Sys2Proof.Machine

/-! ### Edges and their latches (R111, R112, R115, R116) -/

/-- What an accepted edge stands for in a mode; none where the mode does not use it (R111). -/
def Mode.kindOf (m : Mode) (rising : Bool) : Option EdgeKind :=
  match m, rising with
  | .edgeRise, true => some .strobe
  | .edgeRise, false => none
  | .edgeFall, true => none
  | .edgeFall, false => some .strobe
  | .pulseHigh, true => some .leading
  | .pulseHigh, false => some .trailing
  | .pulseLow, true => some .trailing
  | .pulseLow, false => some .leading

/-- A lost strobe spoils the occupancy held in a running pass (R114). -/
def State.lostStrobe (s : State) : State := if s.running then s.spoil .interrupted else s

/-- An edge accepted at core clock `t` (R112, R114). -/
def State.acceptEdge (s : State) (rising : Bool) (t : Nat) : State :=
  match s.eng.mode.kindOf rising with
  | none => s
  | some kind =>
    let a : Int := t - s.eng.delay
    let k : Nat := (a / 8).toNat
    if s.measure.state = .off ∨ a < 0 ∨ k < s.measure.first.getD 0 then s
    else if Config.latchDepth ≤ s.eng.latches.length then s.lostStrobe
    else if k + 1 < s.tracks.alignedNext then s.lostStrobe
    else { s with eng := { s.eng with latches := s.eng.latches ++ [⟨kind, a, k, a % 8, none⟩] } }

/-- The answers of a channel for samples k and k + 1; a PARTNER that is OFF holds neither (R115). -/
def Channel.answers (ch : Channel) (k : Nat) : List HistAnswer :=
  if ch.state = .off then [.notHeld, .notHeld] else [ch.ask k, ch.ask (k + 1)]

/-- The answers of MEASURE, and of PARTNER when assigned, for samples k and k + 1. -/
def State.answers (s : State) (k : Nat) : List HistAnswer :=
  s.measure.answers k ++
    (match s.partner with
      | none => []
      | some c => (s.chan c).answers k)

/-- An answer meets a test on the entry it holds. -/
def HistAnswer.meets (p : HistEntry → Bool) : HistAnswer → Bool
  | .held e => p e
  | _ => false

/-- The raw eighth-count at a fine time between two samples (R115). -/
def rawEighth (q0 q1 fine : Int) : Int := 8 * q0 + fine * (q1 - q0)

/-- The raw eighth-count of a channel at an edge. -/
def Channel.rawAt (ch : Channel) (e : Edge) : Int := rawEighth (ch.qAt e.k) (ch.qAt (e.k + 1)) e.fine

/-- The completed latch of an edge; none while a sample it needs is not yet counted (R115, R116). -/
def State.latchOf (s : State) (e : Edge) : Option Latched :=
  let as := s.answers e.k
  let coast := as.any (HistAnswer.meets fun h => decide (h.state = .coasting))
  if as.any fun x => decide (x = .notHeld) then some ⟨none, 0, 0, false, false, coast⟩
  else if as.any fun x => decide (x = .notYet) then none
  else
    let rawM := s.measure.rawAt e
    let rawP := match s.partner with
      | none => 0
      | some c => (s.chan c).rawAt e
    let originP := match s.partner with
      | none => 0
      | some c => (s.chan c).origin
    some
      { pos := some (s.position (rawM - s.measure.origin) (rawP - originP))
        rawM := rawM
        rawP := rawP
        valid := as.all (HistAnswer.meets fun h => decide (h.state = .tracking) && h.referenced)
        homeValid := as.all (HistAnswer.meets fun h => decide (h.state = .tracking))
        coast := coast }

/-- An edge with its latch completed where it can be. -/
def State.completeEdge (s : State) (e : Edge) : Edge :=
  match e.latch with
  | some _ => e
  | none => { e with latch := s.latchOf e }

/-- Every latch that can complete, completed. -/
def State.completeLatches (s : State) : State :=
  { s with eng := { s.eng with latches := s.eng.latches.map s.completeEdge } }

/-- The first edge of a list whose latch waits and can complete is completed. -/
def State.completeFirst (s : State) : List Edge → List Edge
  | [] => []
  | e :: es =>
    if e.latch = none ∧ (s.latchOf e).isSome then s.completeEdge e :: es else e :: s.completeFirst es

/-- What an edge that has no latch counts as: no position, invalid (R115). -/
def Edge.latched (e : Edge) : Latched := e.latch.getD ⟨none, 0, 0, false, false, false⟩

/-- The reason of an invalid latch (R116). -/
def Latched.reason (l : Latched) : Reject := if l.coast then .coast else .interrupted

/-! ### Commits, misses and rejects (R126, R127, R133, R134) -/

/-- A miss or reject counted during a pass raises REJECT in full (R127). -/
def State.countReject (s : State) (label : Nat) (reason : Reject) : State :=
  (s.tally label reason).raise (.reject label reason)

/-- Steps 2 to 4 of R133. -/
def Acc.add (a : Acc) (x : Int) : Acc where
  n := a.n + 1
  sum := a.sum + x
  sumSq := a.sumSq + x * x
  ext := match a.ext with
    | none => some ⟨x, x⟩
    | some m => some ⟨if x < m.min then x else m.min, if m.max < x then x else m.max⟩

/-- The accumulator of a direction changed. -/
def LineRec.setAcc (r : LineRec) (d : Dir) (a : Acc) : LineRec :=
  match d with
  | .fwd => { r with accF := a }
  | .bwd => { r with accB := a }

/-- A commit into a record (R126, R133): accumulator, last capture, consecutive misses and the test for COMPLETE; a
capture that finds the count at 65535 is dropped (R134). -/
def LineRec.commit (d : Dir) (dev : Int) (pass : Nat) (r : LineRec) : LineRec :=
  if 65535 ≤ (r.acc d).n then r
  else
    let r' := { r.setAcc d ((r.acc d).add dev) with last := some ⟨dev, pass, d⟩, misses := 0 }
    if r'.state = .armed then r'.settled else r'

/-- Put a changed record back and raise REC_COMPLETE at an entry into COMPLETE from another state (R75). -/
def State.raiseIfCompleted (s : State) (before after : LineRec) : State :=
  if before.state ≠ .complete ∧ after.state = .complete then s.raise (.recComplete after.label) else s

/-- A commit into the record of a label (R126). -/
def State.commit (s : State) (label : Nat) (d : Dir) (dev : Int) : State :=
  let f := LineRec.commit d dev s.trav.passNo
  let s' := { s with table := s.table.modify label f }
  match s.table.find label with
  | none => s'
  | some r => s'.raiseIfCompleted r (f r)

/-! ### The exit of the occupied window (R124) -/

/-- The exit taken: far side or near side, with what it counts. -/
def State.exitOccupancy (s : State) (o : Occ) (side : Side) : State :=
  let s' := s.vacate
  match o.outcome with
  | .spoiled r => s'.countReject o.label r
  | .none => s'.countReject o.label (if side ≠ o.side then .miss else .reversal)
  | .provisional dev _ =>
    if side ≠ o.side then s'.commit o.label o.dir dev else s'.countReject o.label .reversal

/-- A pending exit taken, after the pulse it waited for (R124). -/
def State.takePendingExit (s : State) : State :=
  match s.eng.occ with
  | none => s
  | some o =>
    match o.pending with
    | none => s
    | some side => s.exitOccupancy o side

/-- A pulse discarded other than by a pass end: a pending exit is then taken (R118). -/
def State.discardPulse (s : State) (reason : Reject) : State :=
  if s.eng.pulse.isSome then (s.dropPulse reason).takePendingExit else s

/-! ### Crossings (R119 to R121, R124) -/

/-- A crossing of a window edge at a position. -/
inductive Crossing where
  | enter (label : Nat) (side : Side) (pos : Int)
  | leave (label : Nat) (side : Side) (pos : Int)
deriving DecidableEq, Repr

/-- The crossings of one record's window by the travel from p0 to p1, in the order of travel (R119). -/
def LineRec.crossings (p0 p1 : Int) (r : LineRec) : List Crossing :=
  if p0 < p1 then
    (if p0 < r.lo ∧ r.lo ≤ p1 then [.enter r.label .low r.lo] else []) ++
    (if p0 ≤ r.hi ∧ r.hi < p1 then [.leave r.label .high r.hi] else [])
  else if p1 < p0 then
    (if p1 ≤ r.hi ∧ r.hi < p0 then [.enter r.label .high r.hi] else []) ++
    (if p1 < r.lo ∧ r.lo ≤ p0 then [.leave r.label .low r.lo] else [])
  else []

/-- All crossings of a segment in the order of travel (R119, R120). -/
def Table.crossings (t : Table) (p0 p1 : Int) : List Crossing :=
  if p0 < p1 then t.records.flatMap (LineRec.crossings p0 p1)
  else t.records.reverse.flatMap (LineRec.crossings p0 p1)

/-- The carriage reaches a crossing before an edge's position: an entry at exactly that position is taken before the edge,
an exit after it (R120). -/
def Crossing.before (up : Bool) (x : Int) : Crossing → Bool
  | .enter _ _ pos => if up then decide (pos ≤ x) else decide (x ≤ pos)
  | .leave _ _ pos => if up then decide (pos < x) else decide (x < pos)

/-- The side that a pass direction meets first (R121). -/
def Dir.firstSide : Dir → Side
  | .fwd => .low
  | .bwd => .high

/-- An entry begins an occupancy when none is held, the record is eligible in the pass direction and the side is the one
the pass meets first (R121). -/
def State.takeEntry (s : State) (label : Nat) (side : Side) : State :=
  match s.eng.occ, s.trav.dir, s.table.find label with
  | none, some d, some r =>
    if r.eligible d ∧ side = d.firstSide then
      { s with eng := { s.eng with occ := some ⟨label, side, d, .none, none⟩ } }
    else s
  | _, _, _ => s

/-- The exit of the occupied window is taken, or becomes pending while a pulse is open; other exits count nothing, and
while an exit is pending other crossings of the window are ignored (R124). -/
def State.takeLeave (s : State) (label : Nat) (side : Side) : State :=
  match s.eng.occ with
  | none => s
  | some o =>
    if o.label = label ∧ o.pending = none then
      if s.eng.pulse.isSome then { s with eng := { s.eng with occ := some { o with pending := some side } } }
      else s.exitOccupancy o side
    else s

/-- A crossing taken in a segment; `belongs` says that the segment was taken in a running pass, and the pass may have
ended within it (R119). -/
def State.takeCrossing (belongs : Bool) (s : State) (c : Crossing) : State :=
  if belongs && s.running then
    match c with
    | .enter label side _ => s.takeEntry label side
    | .leave label side _ => s.takeLeave label side
  else s

/-! ### Strobes (R122, R123) and HOME (R129) -/

/-- A stray: counted, and raised with its position (R123). -/
def State.stray (s : State) (pos : Option Int) : State :=
  { s with eng := { s.eng with strays := satInc 65535 s.eng.strays } }.raise (.stray pos)

/-- A strobe in the occupied window (R122). -/
def State.strobeInOccupied (s : State) (o : Occ) (dev pos : Int) (valid : Bool) (reason : Reject) (inBand : Bool) :
    State :=
  if valid = false then s.spoil reason
  else if inBand = false then s.spoil .width
  else match o.outcome with
    | .none => { s with eng := { s.eng with occ := some { o with outcome := .provisional dev pos } } }
    | .provisional _ _ => s.spoil .double
    | .spoiled _ => s

/-- A strobe of a running pass matched by its position (R122). -/
def State.matchStrobe (s : State) (pos : Option Int) (valid : Bool) (reason : Reject) (inBand : Bool) : State :=
  match pos with
  | none => s.stray none
  | some p =>
    match s.table.at p with
    | none => s.stray (some p)
    | some r =>
      match s.eng.occ with
      | none => s
      | some o => if o.label = r.label then s.strobeInOccupied o (p - r.n) p valid reason inBand else s

/-- The PARTNER, when one is assigned, meets a test. -/
def State.partnerMeets (s : State) (p : Channel → Bool) : Bool :=
  match s.partner with
  | none => true
  | some c => p (s.chan c)

/-- A channel's origin set to a raw eighth-count, with its referenced flag and ν0 (R16, R129). -/
def State.setOrigin (s : State) (c : Fin 4) (o : Int) : State :=
  s.setChan c { s.chan c with origin := o, referenced := true, nu0 := s.comp.nuApplied }

/-- The origins of MEASURE and PARTNER set at a strobe. -/
def State.setOrigins (s : State) (rawM rawP : Int) : State :=
  match s.partner with
  | none => s.setOrigin 0 rawM
  | some c => (s.setOrigin 0 rawM).setOrigin c rawP

/-- A strobe offered to HOME: it qualifies when its latch is home-valid and MEASURE and PARTNER are TRACKING (R129). -/
def State.offerHome (s : State) (homeValid : Bool) (rawM rawP : Int) : State :=
  if s.eng.home && homeValid && s.measure.tracking && s.partnerMeets Channel.tracking then
    let s' := s.setOrigins rawM rawP
    (({ s' with eng := { s'.eng with home := false } }).emptyRing).raise (.homeDone s.partner)
  else s

/-! ### Pulses (R117, R118) -/

/-- A leading edge opens a pulse in a running pass, or while HOME is armed and no pass is running; an unsound one is
discarded at once. That one of the segment which ends at a pass start counts as one in a running pass is the model's reading
(entry 12). -/
def State.openPulse (s : State) (l : Latched) : State :=
  if s.running || s.eng.home then
    let s' := { s with eng := { s.eng with pulse := some ⟨l, !s.running⟩ } }
    if (if s.running then l.valid else l.homeValid) then s' else s'.discardPulse l.reason
  else s

/-- A width lies in the pulse band (R117). -/
def Engine.inBand (e : Engine) (width : Int) : Bool := decide (e.wMin ≤ width) && decide (width ≤ e.wMax)

/-- A trailing edge closes the open pulse: its centre is matched, or offered to HOME, and a pending exit is then taken. A
centre that has no position, for want of the trailing one, lands outside every window. -/
def State.closePulse (belongs : Bool) (s : State) (p : OpenPulse) (l : Latched) : State :=
  let s' := { s with eng := { s.eng with pulse := none } }
  let lead := p.lead.pos.getD 0
  let trail := l.pos.getD lead
  let inBand := s.eng.inBand (mag (trail - lead))
  if belongs && s.running then
    (s'.matchStrobe (l.pos.map fun t => divNearest (lead + t) 2) l.valid l.reason inBand).takePendingExit
  else if inBand then
    s'.offerHome (p.lead.homeValid && l.homeValid) (divNearest (p.lead.rawM + l.rawM) 2)
      (divNearest (p.lead.rawP + l.rawP) 2)
  else s'

/-- An edge taken at its place in a segment (R117, R120, R122, R129). A strobe of the segment that ends at a pass start, which
belongs to no pass (R101), is offered to HOME although the controller is RUNNING by then: R128 and R129 speak of the segment,
the last sentence of R122 of a running pass (entry 36). -/
def State.takeEdge (belongs : Bool) (s : State) (e : Edge) : State :=
  let l := e.latched
  match e.kind with
  | .strobe =>
    if belongs && s.running then s.matchStrobe l.pos l.valid l.reason true
    else s.offerHome l.homeValid l.rawM l.rawP
  | .leading => (s.discardPulse .interrupted).openPulse l
  | .trailing =>
    match s.eng.pulse with
    | none => s
    | some p => s.closePulse belongs p l

/-- Put an edge in its place by aligned instant (R120). That it comes after those of the same instant, so that equals are taken in
the order of the latch list, is the model's choice (entry 38): R120 gives no order among equals. -/
def insertByInstant (e : Edge) : List Edge → List Edge
  | [] => [e]
  | x :: xs => if e.a < x.a then e :: x :: xs else x :: insertByInstant e xs

/-- The edges in ascending order of aligned instant, those of one instant in the order in which they stand (entry 38). -/
def sortEdges (es : List Edge) : List Edge := es.foldl (fun acc e => insertByInstant e acc) []

/-- The crossings that the carriage reaches before an edge: none where the edge has no position (R120). -/
def Edge.precededBy (up : Bool) (e : Edge) (c : Crossing) : Bool :=
  match e.latched.pos with
  | none => false
  | some x => c.before up x

/-- Crossings and edges of a segment, in the order in which the carriage meets them (R120). -/
def State.takeInOrder (belongs up : Bool) (s : State) : List Edge → List Crossing → State
  | [], cs => cs.foldl (State.takeCrossing belongs) s
  | e :: es, cs =>
    State.takeInOrder belongs up
      (State.takeEdge belongs ((cs.takeWhile (e.precededBy up)).foldl (State.takeCrossing belongs) s) e) es
      (cs.dropWhile (e.precededBy up))

/-- Segment `j` taken, from position p0 to p1: the latched edges with k = j - 1 leave the latch list (R113, R119). -/
def State.takeSegment (belongs : Bool) (s : State) (j : Nat) (p0 p1 : Int) : State :=
  let here := s.eng.latches.filter fun e => decide (e.k < j)
  let s' := { s with eng := { s.eng with latches := s.eng.latches.filter fun e => decide (j ≤ e.k) } }
  s'.takeInOrder belongs (decide (p0 < p1)) (sortEdges here) (s.table.crossings p0 p1)

/-! ### The checks of an open pulse at an aligned sample (R118) -/

/-- The entries of MEASURE, and of PARTNER when assigned, at a sample. -/
def State.entriesAt (s : State) (j : Nat) : List (Option HistEntry) :=
  s.measure.entry j ::
    (match s.partner with
      | none => []
      | some c => [(s.chan c).entry j])

/-- Every entry is held and meets a test: an entry not held is neither TRACKING nor referenced (R15). -/
def allEntries (p : HistEntry → Bool) (es : List (Option HistEntry)) : Bool :=
  es.all fun e => match e with
    | none => false
    | some h => p h

/-- An entry shows TRACKING. -/
def HistEntry.tracks (h : HistEntry) : Bool := decide (h.state = .tracking)

/-- An entry shows TRACKING and referenced. -/
def HistEntry.sound (h : HistEntry) : Bool := h.tracks && h.referenced

/-- The reason given by entries that are not all TRACKING and referenced (R116, R118). -/
def entriesReason (es : List (Option HistEntry)) : Reject :=
  if es.any fun e => match e with
    | none => false
    | some h => decide (h.state = .coasting)
  then .coast else .interrupted

/-- The pulse that is open when an aligned position is formed: farther than w_max from the leading position it is
discarded. -/
def State.checkWidth (s : State) (p : Int) : State :=
  match s.eng.pulse with
  | none => s
  | some op => if s.eng.wMax < mag (p - op.lead.pos.getD 0) then s.discardPulse .width else s

/-- The pulse that stays open at aligned sample `j`: unsound by the entries of that sample it is discarded. -/
def State.checkSound (s : State) (j : Nat) : State :=
  match s.eng.pulse with
  | none => s
  | some op =>
    if allEntries (if op.forHome then HistEntry.tracks else HistEntry.sound) (s.entriesAt j) then s
    else s.discardPulse (entriesReason (s.entriesAt j))

end Sys2Proof.Machine
end

