-- ==== Sys2Proof/Machine/Traverse.lean ====
section
/-! DEFINITION. The aligned track (R113) and the traverse controller's tests on it (R98 to R103). -/

namespace Sys2Proof.Machine

/-- A position appended to the ring of 17 (R98). -/
def pushPosition (ring : List Int) (p : Int) : List Int :=
  if ring.length < Config.positionRingDepth then ring ++ [p] else ring.drop 1 ++ [p]

/-- The latest aligned position and the velocity ring at an aligned sample (R98). -/
def State.notePosition (s : State) (j : Nat) (p : Int) : State :=
  { s with trav := { s.trav with
      latest := some p
      ring := if allEntries HistEntry.tracks (s.entriesAt j) then pushPosition s.trav.ring p else [] } }

/-- A position lies in the span, its ends included (R103). -/
def Traverse.inSpan (t : Traverse) (p : Int) : Bool := decide (t.sLo ≤ p) && decide (p ≤ t.sHi)

/-- MEASURE, and PARTNER when assigned, are TRACKING and referenced as the latest sample left them (R100). -/
def State.channelsReady (s : State) : Bool :=
  (s.measure.tracking && s.measure.referenced) && s.partnerMeets fun ch => ch.tracking && ch.referenced

/-- A pass start (R101): direction, number, RUNNING; a pulse opened while no pass was running is discarded (R118). -/
def State.startPass (s : State) (dp : Int) : State :=
  { s with
    trav := { s.trav with dir := some (dirOf dp), passNo := (s.trav.passNo + 1) % 2 ^ 32, ctl := .running }
    eng := { s.eng with pulse := none } }

/-- The test of a WAITING controller (R100). -/
def State.testStart (s : State) (j : Nat) (p : Int) : State :=
  match s.trav.dp16 with
  | none => s
  | some dp =>
    if allEntries HistEntry.sound (s.entriesAt j) && s.channelsReady && s.trav.inSpan p && reaches dp s.trav.vStart then
      s.startPass dp
    else s

/-- The speed against the pass direction reaches v_rev (R102). -/
def Traverse.turned (t : Traverse) : Bool :=
  match t.dp16, t.dir with
  | some dp, some d => decide (dp ≠ 0) && decide (dirOf dp ≠ d) && reaches dp t.vRev
  | _, _ => false

/-- The tests of a RUNNING controller: SPAN before TURN (R102, R103). -/
def State.testEnd (s : State) (p : Int) : State :=
  if s.trav.inSpan p = false then s.endPass .span false
  else if s.trav.turned then s.endPass .turn false
  else s

/-- The traverse controller's test at an aligned sample; a pass that ends here is tested for a start at the next one. -/
def State.testTraverse (s : State) (j : Nat) (p : Int) : State :=
  match s.trav.ctl with
  | .idle => s
  | .waiting => s.testStart j p
  | .running => s.testEnd p

/-- An aligned sample is due: MEASURE has counted in its present run, and the lag has passed (R113). -/
def State.alignedDue (s : State) : Bool :=
  decide (s.measure.state ≠ .off) && s.measure.first.isSome && decide (s.tracks.alignedNext < s.tracks.alignedLimit)

/-- P(j) formed: it becomes the latest aligned position, enters the velocity ring (R98), and meets the pulse open by then
(R118). -/
def State.formPosition (s : State) (j : Nat) (p : Int) : State :=
  (({ s with tracks := { s.tracks with alignedNext := j + 1 } }).notePosition j p).checkWidth p

/-- The controller's tests at sample j, where P(j) met a controller in state `ctl`: a pass that the width of its pulse has
ended at sample j is first tested for a new start at sample j + 1 (R100). -/
def State.testUnlessEnded (s : State) (ctl : Ctl) (j : Nat) (p : Int) : State :=
  if s.trav.ctl = ctl then s.testTraverse j p else s

/-- The aligned track reaches its next sample `j`: P(j) is formed, the controller makes its tests, and the segment that
ends at j is taken, but for the first sample of MEASURE's run, which ends none (R113). The segment belongs to a pass that
was running before the tests and runs on after them (R101, R119). The check of a pulse still open follows (entry 11). -/
def State.reachAligned (s : State) : State :=
  let j := s.tracks.alignedNext
  let s := s.completeLatches
  let p := s.trackPosition j
  let u := (s.formPosition j p).testUnlessEnded s.trav.ctl j p
  let v := if u.measure.first = some j then u else u.takeSegment (s.running && u.running) j (s.trav.latest.getD p) p
  v.checkSound j

/-- At most `n` aligned samples taken, as long as one is due. -/
def State.reachDue : Nat → State → State
  | 0, s => s
  | n + 1, s => if s.alignedDue then reachDue n s.reachAligned else s

/-- Every latch and every aligned sample that is due is taken; this comes before MEASURE or PARTNER counts a further
sample (R113: the aligned track reaches sample j once sample j + L has been counted). -/
def State.takeDue (s : State) : State :=
  (s.completeLatches).reachDue (s.tracks.alignedLimit - s.tracks.alignedNext)

end Sys2Proof.Machine
end

