-- ==== Sys2Proof/Machine/Sampling.lean ====
section
/-! DEFINITION. The steps of the clock and of the sample path: CONVERSION (R2), SAMPLE_COUNTED (R4) and the steps that are
a sample of a named kind (BRIDGE_CHECK, COAST_TIMEOUT, SETTLE_COMPLETE, SATURATION_SET, SATURATION_CLEAR, PROBE_COMPLETE),
with what a sample does to the probe, the tracker anchor, the attention unit, a running pass and the tracks. -/

namespace Sys2Proof.Machine

/-- A conversion is issued: its number is the count of those before it (R2). -/
def execConversion (s : State) : Host.Outcome State Fault Refusal :=
  .next (if s.active then { s with conversions := s.conversions + 1 } else s)

/-! ### The probe unit (R42, R43) -/

/-- Extremes with one more point. -/
def Extremes.add (e : Option Extremes) (p : Point) : Extremes :=
  match e with
  | none => ⟨p.x, p.x, p.y, p.y, p.r, p.r⟩
  | some e => ⟨min e.xMin p.x, max e.xMax p.x, min e.yMin p.y, max e.yMax p.y, min e.rMin p.r, max e.rMax p.r⟩

/-- A sample added to a run (R42). -/
def ProbeRun.add (run : ProbeRun) (p : Point) : ProbeRun :=
  { run with taken := run.taken + 1, ext := some (Extremes.add run.ext p), sumR := run.sumR + p.r }

/-- The run has its 2^k samples (R43). -/
def ProbeRun.full (run : ProbeRun) : Bool := decide (2 ^ run.k ≤ run.taken)

/-- The result of a run that ends COMPLETE (R43). -/
def ProbeRun.completed (run : ProbeRun) : ProbeResult :=
  ⟨run.ch, run.k, false, run.taken, run.ext, some (divDown run.sumR (2 ^ run.k))⟩

/-- A sample of channel `c` for the probe unit: taken by a run on that channel, which may end COMPLETE (R42, R43). -/
def State.probeTake (s : State) (c : Fin 4) (p : Point) : State :=
  match s.probe.run with
  | none => s
  | some run =>
    if run.ch = c then
      if (run.add p).full then
        { s with probe := ⟨none, some (run.add p).completed⟩ }.raise (.probeDone c false)
      else { s with probe := { s.probe with run := some (run.add p) } }
    else s

/-! ### What a sample does beyond its channel -/

/-- The TRACKER out of TRACKING has no anchor (R58). -/
def State.judgeAnchor (s : State) (c : Fin 4) : State :=
  if (s.chan c).role = .tracker ∧ (s.chan c).state ≠ .tracking then
    { s with comp := { s.comp with anchor := none } }
  else s

/-- The first sample of MEASURE's run: it is the first the aligned track reaches, and edges whose samples lie below it are
discarded (R112, R113). -/
def State.startRun (s : State) (c : Fin 4) (k : Nat) (wasFirst : Bool) : State :=
  if c = 0 ∧ wasFirst then
    { s with
      tracks := { s.tracks with alignedNext := k }
      eng := { s.eng with latches := s.eng.latches.filter fun e => decide (k ≤ e.k) } }
  else s

/-- The raisings that a sample's count finds: BRIDGE (R35) or LOSTn (R36), and the loss of MEASURE or PARTNER breaks a
running pass (R104). -/
def State.reportCount (s : State) (c : Fin 4) (r : Counted) : State :=
  match r.lost with
  | some reason =>
    let s' := s.raise (.lost c reason)
    if r.ch.role.inPosition then s'.endPass .broken false else s'
  | none =>
    match r.bridge with
    | none => s
    | some (d, dropout) => if r.ch.mon.nd ≤ dropout then s.raise (.bridge c d) else s

/-- The tracks follow the samples of MEASURE and PARTNER (R64, R113). -/
def State.followTracks (s : State) (c : Fin 4) : State :=
  if (s.chan c).role.inPosition then s.advanceTracks else s

/-- What is due on the aligned track is taken before MEASURE or PARTNER counts on (R113). -/
def State.dueFirst (s : State) (c : Fin 4) : State := if (s.chan c).role.inPosition then s.takeDue else s

/-- Sample `x` may be counted: the part is active, its conversion has been issued, and the channel counts it next
(R2, R3). -/
def State.mayCount (s : State) (x : SampleIn) : Bool :=
  s.active && decide (x.k < s.conversions) && (s.chan x.ch).mayCount x.k

/-- Raise SATURATE where the sample sets the flag (R39). -/
def State.reportSat (s : State) (c : Fin 4) (sets : Bool) : State := if sets then s.raise (.saturate c) else s

/-- The effects of a sample on its channel and beyond it, once nothing is due. -/
def State.countNow (s : State) (x : SampleIn) : State :=
  let ch := s.chan x.ch
  let p := ch.point x
  let r := ch.count x
  let s := ((s.setChan x.ch r.ch).judgeAnchor x.ch).startRun x.ch x.k (decide (ch.first = none))
  let s := (s.reportSat x.ch (ch.setsSat p)).probeTake x.ch p
  (s.reportCount x.ch r).followTracks x.ch

/-- A sample counted; a sample that cannot come about, or of a channel that is OFF, changes nothing (R3). -/
def State.countSample (s : State) (x : SampleIn) : State :=
  if s.mayCount x then (s.dueFirst x.ch).countNow x else s

/-- SAMPLE_COUNTED (R4). -/
def execSampleCounted (x : SampleIn) (s : State) : Host.Outcome State Fault Refusal := .next (s.countSample x)

/-- A sample counted when it is of the kind a step names; a step of another kind does not come about. -/
def State.countIf (s : State) (x : SampleIn) (kind : Channel → Point → Bool) : State :=
  if kind (s.chan x.ch) ((s.chan x.ch).point x) then s.countSample x else s

/-- The sample is the check sample of a coast (R33). -/
def isBridgeCheck (ch : Channel) (p : Point) : Bool :=
  match ch.state with
  | .coasting a => ch.isCheck a p
  | _ => false

/-- The sample times the coast out (R34). -/
def isCoastTimeout (ch : Channel) (p : Point) : Bool :=
  match ch.state with
  | .coasting a => ch.isTimeout a p
  | _ => false

/-- The sample completes a settle (R29). -/
def isSettleComplete (ch : Channel) (p : Point) : Bool :=
  match ch.state with
  | .settling => ch.settles p
  | .lost => ch.settles p
  | _ => false

/-- BRIDGE_CHECK (R33). -/
def execBridgeCheck (x : SampleIn) (s : State) : Host.Outcome State Fault Refusal := .next (s.countIf x isBridgeCheck)

/-- COAST_TIMEOUT (R34). -/
def execCoastTimeout (x : SampleIn) (s : State) : Host.Outcome State Fault Refusal :=
  .next (s.countIf x isCoastTimeout)

/-- SETTLE_COMPLETE (R29). -/
def execSettleComplete (x : SampleIn) (s : State) : Host.Outcome State Fault Refusal :=
  .next (s.countIf x isSettleComplete)

/-- SATURATION_SET (R39). -/
def execSaturationSet (x : SampleIn) (s : State) : Host.Outcome State Fault Refusal :=
  .next (s.countIf x Channel.setsSat)

/-- SATURATION_CLEAR (R40). -/
def execSaturationClear (x : SampleIn) (s : State) : Host.Outcome State Fault Refusal :=
  .next (s.countIf x Channel.clearsSat)

/-- The sample brings the probe run on its channel to its 2^k samples (R43). -/
def State.completesProbe (s : State) (x : SampleIn) : Bool :=
  match s.probe.run with
  | none => false
  | some run => decide (run.ch = x.ch) && decide (2 ^ run.k ≤ run.taken + 1)

/-- PROBE_COMPLETE (R43). -/
def execProbeComplete (x : SampleIn) (s : State) : Host.Outcome State Fault Refusal :=
  .next (if s.completesProbe x then s.countSample x else s)

end Sys2Proof.Machine
end

