-- ==== Sys2Proof/Machine/ChannelRequests.lean ====
section
/-! DEFINITION. The requests that a channel owns (chapters 1 and 2): SET_CHANNEL, SET_QUADRATURE, SET_MONITOR, CHANNEL_ON,
CHANNEL_OFF, PRESET, PROBE, READ_CHANNEL and READ_PROBE. -/

namespace Sys2Proof.Machine

/-- A request addressed to a channel: a number outside 0..3 is refused with RANGE. -/
def onChannel (b : Byte) (f : Fin 4 → State → State × Response) (s : State) : State × Response :=
  match channelOf b with
  | none => refuse .range s
  | some c => f c s

/-- A channel that holds MEASURE or PARTNER while a pass is RUNNING (R17, R19, R108). -/
def State.inPass (s : State) (c : Fin 4) : Bool := (s.chan c).role.inPosition && s.running

/-! ### SET_CHANNEL (R20 to R22) -/

/-- A role would break R20: FC0 keeps MEASURE and no other takes it, PARTNER and TRACKER are held once, and the TRACKER
role stays while the index source is TRACKER. A role equal to the one held is no conflict (R21). -/
def State.roleConflict (s : State) (c : Fin 4) (role : Role) : Bool :=
  decide (role ≠ (s.chan c).role) &&
  (decide (c = 0) || decide (role = .measure) ||
    (decide (role = .partner) && s.partner.isSome) ||
    (decide (role = .tracker) && s.tracker.isSome) ||
    (decide ((s.chan c).role = .tracker) && decide (s.comp.source = .tracker)))

/-- SET_CHANNEL moves the registered position without moving the carriage (R98): a role changed, or λ, K or d of MEASURE or
PARTNER. -/
def movesPosition (before after : Channel) : Bool :=
  decide (before.role ≠ after.role) ||
  (after.role.inPosition &&
    (decide (before.lambda ≠ after.lambda) || decide (before.passK ≠ after.passK) ||
      decide (before.datum ≠ after.datum)))

/-- The effects of an accepted SET_CHANNEL (R22): M recomputed on a change of λ or K, the velocity ring emptied on a change
that moves the position, and a running pass broken by a new PARTNER (R104). -/
def State.applyChannel (s : State) (c : Fin 4) (after : Channel) : State :=
  let before := s.chan c
  let s := s.setChan c after
  let s := if before.lambda ≠ after.lambda ∨ before.passK ≠ after.passK then s.refactor c else s
  let s := if movesPosition before after then s.emptyRing else s
  if before.role ≠ .partner ∧ after.role = .partner then s.endPass .broken false else s

/-- The checks and effects of SET_CHANNEL on channel `c` (R21). -/
def setChannelOn (q : SetChannelReq) (c : Fin 4) (s : State) : State × Response :=
  if (s.chan c).state ≠ .off ∧ q.beyondStep then refuse .state s
  else match named roleOf q.role with
    | none => refuse .range s
    | some role =>
      if s.roleConflict c (role.getD (s.chan c).role) then refuse .conflict s
      else match named senseOf q.sense, named passKOf q.passK, named inSourceOf q.source with
        | some sense, some passK, some source =>
          (s.applyChannel c (q.apply role sense passK source (s.chan c)), accepted q.clamps)
        | _, _, _ => refuse .range s

/-- The checks and effects of SET_CHANNEL. -/
def setChannel (q : SetChannelReq) (s : State) : State × Response :=
  if q.unlisted ≠ 0 then refuse .range s else onChannel q.ch (setChannelOn q) s

/-- SET_CHANNEL. -/
def execSetChannel (q : SetChannelReq) (s : State) : Host.Outcome State Fault Refusal :=
  complete (.setChannel q) (setChannel q) s

/-! ### SET_QUADRATURE (R7) and SET_MONITOR (R26) -/

/-- The effects of SET_QUADRATURE. -/
def setQuadratureOn (q : SetQuadratureReq) (c : Fin 4) (s : State) : State × Response :=
  (s.setChan c { s.chan c with codes := q.codes }, accepted q.clamps)

/-- SET_QUADRATURE. -/
def execSetQuadrature (q : SetQuadratureReq) (s : State) : Host.Outcome State Fault Refusal :=
  complete (.setQuadrature q) (onChannel q.ch (setQuadratureOn q)) s

/-- The effects of SET_MONITOR. -/
def setMonitorOn (q : SetMonitorReq) (c : Fin 4) (s : State) : State × Response :=
  (s.setChan c { s.chan c with mon := q.apply (s.chan c).mon }, accepted q.clamps)

/-- The checks and effects of SET_MONITOR. -/
def setMonitor (q : SetMonitorReq) (s : State) : State × Response :=
  if q.unlisted ≠ 0 then refuse .range s else onChannel q.ch (setMonitorOn q) s

/-- SET_MONITOR. -/
def execSetMonitor (q : SetMonitorReq) (s : State) : Host.Outcome State Fault Refusal :=
  complete (.setMonitor q) (setMonitor q) s

/-! ### CHANNEL_ON (R18, R28) -/

/-- A channel started from zero. -/
def Channel.started (ch : Channel) (measureNext : Nat) : Channel :=
  { ch with
    q := 0
    origin := 0
    referenced := false
    history := []
    ring := List.replicate Config.ringDepth 0
    phiOld := 0
    synPhase := 0
    state := .settling
    loss := .none
    beam := false
    settleRun := 0
    sat := false
    overRun := 0
    calmRun := 0
    first := none
    onAt := measureNext }

/-- The checks and effects of CHANNEL_ON; one of MEASURE or PARTNER empties the velocity ring (R98). -/
def channelOnAt (c : Fin 4) (s : State) : State × Response :=
  if (s.chan c).state ≠ .off then refuse .state s
  else
    let s' := s.setChan c ((s.chan c).started s.measure.next)
    (if (s.chan c).role.inPosition then s'.emptyRing else s', accepted false)

/-- CHANNEL_ON. -/
def execChannelOn (ch : Byte) (s : State) : Host.Outcome State Fault Refusal :=
  complete (.channelOn ch) (onChannel ch channelOnAt) s

/-! ### CHANNEL_OFF (R19, R28, R44) -/

/-- A channel stopped: the coast anchor goes with the state. -/
def Channel.stopped (ch : Channel) : Channel :=
  { ch with state := .off, referenced := false, settleRun := 0, overRun := 0, calmRun := 0 }

/-- The result of a run that is aborted (R44). -/
def ProbeRun.abortedResult (run : ProbeRun) : ProbeResult := ⟨run.ch, run.k, true, run.taken, run.ext, none⟩

/-- A probe run on the channel is aborted, and PROBE_DONE raised (R44). -/
def State.abortProbe (s : State) (c : Fin 4) : State :=
  match s.probe.run with
  | none => s
  | some run =>
    if run.ch = c then { s with probe := ⟨none, some run.abortedResult⟩ }.raise (.probeDone c true) else s

/-- CHANNEL_OFF of MEASURE empties the latch list and discards an open pulse (R112, R118); of PARTNER, what waited for it
waits no longer (R64). -/
def State.offEngine (s : State) (c : Fin 4) : State :=
  if c = 0 then { s with eng := { s.eng with latches := [], pulse := none } }
  else if s.partner = some c then s.advanceTracks
  else s

/-- The effects of a CHANNEL_OFF on a channel that is not OFF. -/
def State.switchOff (s : State) (c : Fin 4) : State :=
  (((s.setChan c (s.chan c).stopped).judgeAnchor c).offEngine c).abortProbe c

/-- The checks and effects of CHANNEL_OFF; a channel already OFF stays OFF. -/
def channelOffAt (c : Fin 4) (s : State) : State × Response :=
  if s.inPass c then refuse .state s
  else (if (s.chan c).state = .off then s else s.switchOff c, accepted false)

/-- CHANNEL_OFF. -/
def execChannelOff (ch : Byte) (s : State) : Host.Outcome State Fault Refusal :=
  complete (.channelOff ch) (onChannel ch channelOffAt) s

/-! ### PRESET (R17) -/

/-- The origin PRESET sets. -/
def presetOrigin (ch : Channel) (value : Int) : Int := 8 * ch.q - value

/-- PRESET's origin and ν0 in a channel; a change of either in MEASURE or PARTNER empties the velocity ring (R98). -/
def State.applyPreset (s : State) (c : Fin 4) (value : Int) : State :=
  let o := presetOrigin (s.chan c) value
  let s' := s.setOrigin c o
  if (s.chan c).role.inPosition ∧ (o ≠ (s.chan c).origin ∨ s.comp.nuApplied ≠ (s.chan c).nu0) then s'.emptyRing
  else s'

/-- The checks and effects of PRESET. -/
def presetAt (value : Int) (c : Fin 4) (s : State) : State × Response :=
  if (s.chan c).state ≠ .tracking then refuse .state s
  else if s.inPass c then refuse .state s
  else if Config.originMax < mag value ∨ Config.originMax < mag (presetOrigin (s.chan c) value) then refuse .range s
  else (s.applyPreset c value, accepted false)

/-- PRESET. -/
def execPreset (ch : Byte) (value : BitVec 48) (s : State) : Host.Outcome State Fault Refusal :=
  complete (.preset ch value) (onChannel ch (presetAt value.toInt)) s

/-! ### PROBE (R41) and the readouts (R23, R45) -/

/-- The checks and effects of PROBE; k is clamped to 8..20. -/
def probeAt (k : Nat) (c : Fin 4) (s : State) : State × Response :=
  if s.probe.run.isSome then refuse .busy s
  else if (s.chan c).state = .off then refuse .state s
  else ({ s with probe := { s.probe with run := some ⟨c, (clamp 8 20 k).toNat, 0, none, 0⟩ } },
    accepted (outside 8 20 (some k)))

/-- PROBE. -/
def execProbe (ch k : Byte) (s : State) : Host.Outcome State Fault Refusal :=
  complete (.probe ch k) (onChannel ch (probeAt k.toNat)) s

/-- READ_CHANNEL. -/
def execReadChannel (ch : Byte) (s : State) : Host.Outcome State Fault Refusal :=
  complete (.readChannel ch) (onChannel ch fun c s => image (channelImage s c) s) s

/-- READ_PROBE. -/
def execReadProbe (s : State) : Host.Outcome State Fault Refusal :=
  complete .readProbe (fun s => image (probeImage s.probe) s) s

end Sys2Proof.Machine
end

