-- ==== Sys2Proof/Machine/Compensation.lean ====
section
/-! DEFINITION. The compensation unit (chapter 3): the update, SET_COMPENSATION, PUT_ENVIRONMENT, ANCHOR_TRACKER and
READ_COMPENSATION. -/

namespace Sys2Proof.Machine

/-! ### The index target (R49 to R51, R57) -/

/-- A value of the index clamped (R49). -/
def clampNu (v : Int) : Int := clamp 0 Config.nuMax v

/-- The index of the environment record (R51). -/
def envIndex (a b : Int) (e : Env) : Int :=
  clampNu (divDown (a * e.p.getD 0) (e.tAir.getD 0 + 273150) - divDown (b * e.e.getD 0) 1000)

/-- The index from the tracker's count (R57). -/
def trackerIndex (anchor : TrackerAnchor) (q lambda passK lt : Int) : Int :=
  clampNu (anchor.nu + divNearest ((q - anchor.q) * lambda) (4096 * passK * lt))

/-- The environment record is fresh: it holds a pressure and an air temperature, and its age is at most the age limit
(R52). -/
def Comp.isFresh (c : Comp) : Bool :=
  c.env.p.isSome && c.env.tAir.isSome && decide ((c.age : Int) ≤ 1000 * c.ageLimit)

/-- Steps 1 and 2 of an update, and the settings that take effect at it (R46, R48). -/
def Comp.aged (c : Comp) : Comp :=
  let c := { c with age := satInc (2 ^ 32 - 1) c.age }
  { c with judgedAge := c.age, fresh := c.isFresh, forceA := c.a, forceB := c.b, forcePolicy := c.policy }

/-- The index target that step 3 of an update forms or holds (R49). -/
def State.indexTarget (s : State) : Int :=
  let c := s.comp
  match c.source with
  | .fixed => clampNu c.nuFixed
  | .environment => if c.fresh then envIndex c.a c.b c.env else c.nuTarget
  | .tracker =>
    match c.anchor, s.tracker with
    | some anchor, some t => trackerIndex anchor (s.chan t).q (s.chan t).lambda (s.chan t).passK c.lt
    | _, _ => c.nuTarget

/-- A value moved toward its target by at most a limit (R60). -/
def slewed (limit target applied : Int) : Int :=
  if mag (target - applied) ≤ limit then target
  else if applied < target then applied + limit else applied - limit

/-- The scale temperature applied after a SLEW step (R60). -/
def Comp.slewedT (c : Comp) : Option Int :=
  match c.tTarget, c.tApplied with
  | none, t => t
  | some t, none => some t
  | some t, some a => some (slewed c.sT t a)

/-- Steps 5 and 6 of an update: the applied values move, and a change of the index recomputes every M (R46, R63). -/
def State.moveApplied (s : State) (nu : Int) (t : Option Int) : State :=
  if nu = s.comp.nuApplied then s.applyValues nu t else (s.applyValues nu t).refactorAll

/-- Step 5 by the policy (R59 to R61). -/
def State.policyStep (s : State) : State :=
  match s.comp.forcePolicy with
  | .step => s.moveApplied s.comp.nuTarget s.comp.steppedT
  | .slew => s.moveApplied (slewed s.comp.sNu s.comp.nuTarget s.comp.nuApplied) s.comp.slewedT
  | .passHold => if s.running then s else s.moveApplied s.comp.nuTarget s.comp.steppedT

/-- Steps 1 to 4 of an update. -/
def State.formTargets (s : State) : State :=
  let s := { s with comp := s.comp.aged }
  { s with comp := { s.comp with
      nuTarget := s.indexTarget
      tTarget := match s.comp.env.tScale with
        | none => s.comp.tTarget
        | some t => some t } }

/-- The environment-stale condition as step 7 of an update judges it (R53). -/
def Comp.judgesStale (c : Comp) : Bool := decide (c.source = .environment) && !c.fresh

/-- Step 7: the condition judged, and ENV_STALE raised where it begins to hold (R53). -/
def State.judgeStale (s : State) : State :=
  let s' := { s with comp := { s.comp with stale := s.comp.judgesStale } }
  if s.comp.judgesStale && !s.comp.stale then s'.raise s.comp.staleDetail else s'

/-- An update (R46); none is made while RSTN is low or RESET_PART is in progress (R174). -/
def State.update (s : State) : State :=
  if s.active then s.formTargets.policyStep.judgeStale else s

/-- UPDATE (R46). -/
def execUpdate (s : State) : Host.Outcome State Fault Refusal := .next s.update

/-- The environment-stale condition begins at the update now due (R53). -/
def State.beginsStale (s : State) : Bool := s.active && !s.comp.stale && s.comp.aged.judgesStale

/-- ENV_STALE_CONDITION: the update at which the condition begins (R53). -/
def execEnvStaleCondition (s : State) : Host.Outcome State Fault Refusal :=
  .next (if s.beginsStale then s.update else s)

/-! ### SET_COMPENSATION (R48) -/

/-- The settings carried, held, with what a change of Lt, Rb or α does beside them (R58, R98). -/
def State.applyCompensation (s : State) (c : Comp) : State :=
  let c := if c.lt ≠ s.comp.lt then { c with anchor := none } else c
  let s' := { s with comp := c }
  if c.rb ≠ s.comp.rb ∨ c.alpha ≠ s.comp.alpha then s'.emptyRing else s'

/-- The checks and effects of SET_COMPENSATION (R48, R163). -/
def setCompensation (q : SetCompensationReq) (s : State) : State × Response :=
  if q.unlisted ≠ 0 then refuse .range s
  else match named indexSourceOf q.source, named policyOf q.policy with
    | some source, some policy =>
      if source = some .tracker ∧ s.tracker = none then refuse .conflict s
      else (s.applyCompensation (q.apply source policy s.comp), accepted q.clamps)
    | _, _ => refuse .range s

/-- SET_COMPENSATION. -/
def execSetCompensation (q : SetCompensationReq) (s : State) : Host.Outcome State Fault Refusal :=
  complete (.setCompensation q) (setCompensation q) s

/-! ### PUT_ENVIRONMENT (R54, R55) -/

/-- The checks and effects of PUT_ENVIRONMENT. -/
def putEnvironment (q : PutEnvironmentReq) (s : State) : State × Response :=
  if q.unlisted ≠ 0 then refuse .range s
  else
    let c := { s.comp with
      env := q.apply s.comp.env
      age := if q.p.isSome ∨ q.tAir.isSome then 0 else s.comp.age }
    let s' := { s with comp := c }
    (if q.clamps then s'.raise (.envClamp q.clamped.1 q.clamped.2.1 q.clamped.2.2.1 q.clamped.2.2.2) else s',
      accepted q.clamps)

/-- PUT_ENVIRONMENT. -/
def execPutEnvironment (q : PutEnvironmentReq) (s : State) : Host.Outcome State Fault Refusal :=
  complete (.putEnvironment q) (putEnvironment q) s

/-! ### ANCHOR_TRACKER (R56) -/

/-- The anchor set. -/
def State.setAnchor (s : State) (a : TrackerAnchor) : State := { s with comp := { s.comp with anchor := some a } }

/-- The checks and effects of ANCHOR_TRACKER. -/
def anchorTracker (nu : Option (BitVec 32)) (unlisted : BitVec 7) (s : State) : State × Response :=
  if unlisted ≠ 0 then refuse .range s
  else match s.tracker with
    | none => refuse .state s
    | some t =>
      if (s.chan t).state ≠ .tracking then refuse .state s
      else if s.comp.lt = 0 then refuse .range s
      else match signed nu with
        | none =>
          if s.comp.fresh = false then refuse .state s
          else (s.setAnchor ⟨envIndex s.comp.forceA s.comp.forceB s.comp.env, (s.chan t).q⟩, accepted false)
        | some v =>
          if v < 0 ∨ Config.nuMax < v then refuse .range s
          else (s.setAnchor ⟨v, (s.chan t).q⟩, accepted false)

/-- ANCHOR_TRACKER. -/
def execAnchorTracker (nu : Option (BitVec 32)) (unlisted : BitVec 7) (s : State) :
    Host.Outcome State Fault Refusal :=
  complete (.anchorTracker nu unlisted) (anchorTracker nu unlisted) s

/-! ### READ_COMPENSATION (R70) -/

/-- READ_COMPENSATION. -/
def execReadCompensation (s : State) : Host.Outcome State Fault Refusal :=
  complete .readCompensation (fun s => image (compensationImage s) s) s

end Sys2Proof.Machine
end

