-- ==== Sys2Proof/Machine/PassRequests.lean ====
section
/-! DEFINITION. The traverse controller's requests (chapter 5) and the registration engine's own (chapter 6): SET_TRAVERSE,
START_PLAN, STOP_PLAN, END_PASS, READ_TRAVERSE, SET_DETECTOR, HOME; and the steps EDGE_ACCEPT, LATCH_COMPLETE and
ALIGNED_SAMPLE. -/

namespace Sys2Proof.Machine

/-! ### SET_TRAVERSE (R97) -/

/-- The checks and effects of SET_TRAVERSE: a span that is empty after clamping is refused, the clamped values with it. -/
def setTraverse (q : SetTraverseReq) (s : State) : State × Response :=
  if q.unlisted ≠ 0 then refuse .range s
  else if (q.apply s.trav).sHi ≤ (q.apply s.trav).sLo then refuse .range s
  else ({ s with trav := q.apply s.trav }, accepted q.clamps)

/-- SET_TRAVERSE. -/
def execSetTraverse (q : SetTraverseReq) (s : State) : Host.Outcome State Fault Refusal :=
  complete (.setTraverse q) (setTraverse q) s

/-! ### The plan (R94 to R96) -/

/-- The checks and effects of START_PLAN: a count of 0 is an open plan. -/
def startPlan (count : Nat) (s : State) : State × Response :=
  if s.trav.ctl ≠ .idle then refuse .state s
  else ({ s with trav := { s.trav with ctl := .waiting, counted := decide (count ≠ 0), remaining := count } },
    accepted false)

/-- START_PLAN. -/
def execStartPlan (count : BitVec 16) (s : State) : Host.Outcome State Fault Refusal :=
  complete (.startPlan count) (startPlan count.toNat) s

/-- The controller enters IDLE. -/
def State.goIdle (s : State) : State := { s with trav := { s.trav with ctl := .idle } }

/-- The checks and effects of STOP_PLAN: the running pass ends REQUEST, IDLE, and PLAN_DONE with detail stopped. -/
def stopPlan (s : State) : State × Response :=
  if s.trav.ctl = .idle then refuse .state s
  else (((s.endPass .request true).goIdle).raise (.planDone true), accepted false)

/-- STOP_PLAN. -/
def execStopPlan (s : State) : Host.Outcome State Fault Refusal := complete .stopPlan stopPlan s

/-- The checks and effects of END_PASS. -/
def endPassRequest (s : State) : State × Response :=
  if s.running then (s.endPass .request false, accepted false) else refuse .state s

/-- END_PASS. -/
def execEndPass (s : State) : Host.Outcome State Fault Refusal := complete .endPass endPassRequest s

/-- READ_TRAVERSE. -/
def execReadTraverse (s : State) : Host.Outcome State Fault Refusal :=
  complete .readTraverse (fun s => image (traverseImage s) s) s

/-! ### SET_DETECTOR (R109) -/

/-- Every edge of the latch list is discarded as a lost strobe (R114). -/
def State.loseLatches (s : State) : State :=
  let s' := { s with eng := { s.eng with latches := [] } }
  if s.eng.latches.isEmpty then s' else s'.lostStrobe

/-- What a mode carried does beside its value: the latched edges are lost and the open pulse is discarded. -/
def State.changeMode (s : State) (carried : Bool) : State :=
  if carried then (s.loseLatches).discardPulse .interrupted else s

/-- The core clock of a completion: between the sample instant of the latest conversion, 8 core clocks for each before it (R2),
and the next one, at a place that is free (entry 37). -/
def State.completionClock (s : State) : Int := 8 * s.conversions - 8 + (Config.completionPhase s.conversions).val

/-- The checks and effects of SET_DETECTOR: a band that is empty after clamping is refused, the clamped values with it. -/
def setDetector (q : SetDetectorReq) (s : State) : State × Response :=
  if q.unlisted ≠ 0 then refuse .range s
  else match named modeOf q.mode with
    | none => refuse .range s
    | some mode =>
      let e := q.apply mode s.completionClock s.eng
      if e.wMax < e.wMin then refuse .range s
      else (({ s with eng := e }).changeMode q.mode.isSome, accepted q.clamps)

/-- SET_DETECTOR. -/
def execSetDetector (q : SetDetectorReq) (s : State) : Host.Outcome State Fault Refusal :=
  complete (.setDetector q) (setDetector q) s

/-! ### HOME (R128) -/

/-- The checks and effects of HOME. -/
def home (s : State) : State × Response :=
  if s.trav.ctl ≠ .idle then refuse .state s
  else ({ s with eng := { s.eng with home := true } }, accepted false)

/-- HOME. -/
def execHome (s : State) : Host.Outcome State Fault Refusal := complete .home home s

/-! ### EDGE_ACCEPT (R110) -/

/-- The F that governs a level change first seen at core clock `t` (R109): the one before the latest completion that carried an
F, for a change seen up to that completion. -/
def Engine.filterAt (e : Engine) (t : Nat) : Int := if (t : Int) ≤ e.filterClock then e.priorFilter else e.filter

/-- A level new to the filtered level has held long enough to be confirmed, and was first seen after the level before. -/
def Engine.confirms (e : Engine) (level : Bool) (t held : Nat) : Bool :=
  decide (e.filterAt t + 1 ≤ held) && decide (e.level ≠ some level) &&
  (match e.levelClock with
    | none => true
    | some t0 => decide (t0 < t))

/-- The filter's step: the first confirmation after a reset accepts no edge. -/
def State.confirmLevel (s : State) (level : Bool) (t : Nat) : State :=
  let s' := { s with eng := { s.eng with level := some level, levelClock := some t } }
  match s.eng.level with
  | none => s'
  | some _ => s'.acceptEdge level t

/-- EDGE_ACCEPT: LSTB took `level` at core clock `t` and kept it for `held` core clocks. An excursion shorter than F + 1 is
ignored whole. -/
def execEdgeAccept (level : Bool) (t held : Nat) (s : State) : Host.Outcome State Fault Refusal :=
  .next (if s.active && s.eng.confirms level t held then s.confirmLevel level t else s)

/-! ### LATCH_COMPLETE (R115) and ALIGNED_SAMPLE (R113) -/

/-- LATCH_COMPLETE: the first latch that waits and can complete does. -/
def execLatchComplete (s : State) : Host.Outcome State Fault Refusal :=
  .next (if s.active then { s with eng := { s.eng with latches := s.completeFirst s.eng.latches } } else s)

/-- ALIGNED_SAMPLE: the aligned track reaches its next sample, when one is due. -/
def execAlignedSample (s : State) : Host.Outcome State Fault Refusal :=
  .next (if s.active && s.alignedDue then s.reachAligned else s)

end Sys2Proof.Machine
end

