-- ==== Sys2Proof/Machine/PortEvents.lean ====
section
/-! DEFINITION. The request port (chapter 9) and the resets: POWER_ON, RSTN_ASSERT, RSTN_RELEASE, CSN_SEEN_HIGH,
EMPTY_TRANSACTION, REQUEST_FRAME, FETCH, FRAME_ERROR, UNKNOWN and RESET_PART. -/

namespace Sys2Proof.Machine

/-! ### Resets (R2, R24, R176) -/

/-- The part reset, with RSTN at a level; the queue of commands is not the part's and stays. -/
def State.hardReset (s : State) (rstnLow : Bool) : State :=
  { State.reset with rstnLow := rstnLow, pending := s.pending }

/-- POWER_ON: every block in its reset state; RSTN is a pin and keeps its level. -/
def execPowerOn (s : State) : Host.Outcome State Fault Refusal := .next (s.hardReset s.rstnLow)

/-- RSTN_ASSERT. -/
def execRstnAssert (s : State) : Host.Outcome State Fault Refusal := .next (s.hardReset true)

/-- RSTN_RELEASE: RSTN rises where it was low. -/
def execRstnRelease (s : State) : Host.Outcome State Fault Refusal :=
  .next (if s.rstnLow then s.hardReset false else s)

/-- CSN has been seen high. -/
def State.gainFooting (s : State) : State := { s with port := { s.port with footing := true } }

/-- CSN_SEEN_HIGH; while RSTN is low the port ignores CSN (R176). -/
def execCsnSeenHigh (s : State) : Host.Outcome State Fault Refusal :=
  .next (if s.rstnLow then s else s.gainFooting)

/-! ### Transactions (R159, R176) -/

/-- A transaction that ends: while RSTN is low the port ignores the link; a transaction whose CSN was already low at the
release is ignored whole, and its CSN rise gives the port its footing; any other is judged. -/
def State.transaction (s : State) (judge : State → State) : State :=
  if s.rstnLow then s
  else if s.port.footing then judge s
  else s.gainFooting

/-- SDO's bytes in the latest transaction judged. -/
def State.drive (s : State) (bytes : List Byte) : State := { s with port := { s.port with sdo := bytes } }

/-- EMPTY_TRANSACTION: fewer than 8 bits change nothing. -/
def execEmptyTransaction (_bits : Nat) (s : State) : Host.Outcome State Fault Refusal :=
  .next (s.transaction id)

/-! ### REQUEST_FRAME (R161, R174) -/

/-- The start of a soft reset (R174): a running pass, the occupancy, the latch list, an open pulse and a probe run are
discarded, and nothing is raised. That the controller is IDLE from the acceptance on, from WAITING too, is the model's choice
(entry 21): R174 only discards a running pass, and no readout shows the controller before the completion. -/
def State.resetBegin (s : State) : State :=
  { s with
    trav := { s.trav with ctl := .idle }
    eng := { s.eng with occ := none, latches := [], pulse := none }
    probe := { s.probe with run := none }
    port := { s.port with link := .resetting } }

/-- A frame accepted: the slot is emptied and RDY rises. -/
def State.acceptFrame (s : State) (f : Frame) : State :=
  if completionOf f = .resetPart then s.resetBegin else { s with port := { s.port with link := .processing f } }

/-- A request frame at the rising edge of CSN (R161): accepted, or discarded as OVERRUN while a request is in process, or
discarded without a raising while RESET_PART is in progress. -/
def State.offerFrame (s : State) (f : Frame) : State :=
  match s.port.link with
  | .empty => s.acceptFrame f
  | .holding _ => s.acceptFrame f
  | .processing _ => s.raise (.linkFault .overrun f.code)
  | .resetting => s

/-- REQUEST_FRAME: FFh is driven during every byte of it (R159). -/
def execRequestFrame (bytes : List Byte) (tail : Nat) (s : State) : Host.Outcome State Fault Refusal :=
  .next (if requestFrameOk bytes tail then
    s.transaction fun s => (s.drive (List.replicate bytes.length 0xFF#8)).offerFrame (frameOf bytes tail)
  else s)

/-! ### FETCH (R166) -/

/-- The response that a fetch fixes at the end of its first byte. -/
def State.fetched (s : State) : Response :=
  match s.port.link with
  | .holding r => r
  | _ => .bare .notReady

/-- The bytes driven in a fetch of `n` whole bytes after the first: FFh, the response, and FFh after its end. -/
def fetchBytes (r : Response) (n : Nat) : List Byte :=
  0xFF#8 :: (r.bytes ++ List.replicate n 0xFF#8).take n

/-- FETCH: nothing changes but what SDO drove. -/
def execFetch (n : Nat) (s : State) : Host.Outcome State Fault Refusal :=
  .next (s.transaction fun s => s.drive (fetchBytes s.fetched n))

/-! ### Completions that the port owns (R162, R163, R175) -/

/-- The frame in process. -/
def State.frame (s : State) : Frame :=
  match s.port.link with
  | .processing f => f
  | _ => ⟨[], 0, 0⟩

/-- The effects of FRAME_ERROR: LINK_FAULT is raised at the completion. -/
def frameError (s : State) : State × Response :=
  (s.raise (.linkFault (frameErrorReason s.frame) s.frame.code), .bare .frameError)

/-- FRAME_ERROR. -/
def execFrameError (s : State) : Host.Outcome State Fault Refusal := complete .frameError frameError s

/-- UNKNOWN: no source is raised and nothing changes. -/
def execUnknown (s : State) : Host.Outcome State Fault Refusal := complete .unknown (refuse .unknown) s

/-- The state that a soft reset completes in (R92, R175): every block at its defaults, the line table's records kept, OK in
the slot; RSTN, the port's footing and what SDO drove last are not blocks' values and stay. -/
def State.softReset (s : State) : State :=
  { State.reset with
    rstnLow := s.rstnLow
    table := { Table.empty with records := s.table.records }
    port := { s.port with link := .holding (.bare .ok) }
    pending := s.pending }

/-- RESET_PART: the completion of a soft reset in progress. -/
def execResetPart (s : State) : Host.Outcome State Fault Refusal :=
  .next (if s.resetting then s.softReset else s)

end Sys2Proof.Machine
end

