-- ==== Sys2Proof/Machine/TableRequests.lean ====
section
/-! DEFINITION. The line table's requests (chapter 4) and the readouts of results (chapter 7): the table edits, the lookups,
the scan cursor, READ_RESULT and READ_INTERVAL. -/

namespace Sys2Proof.Machine

/-- A request addressed to a record: a label that is not held is refused with ABSENT. -/
def onRecord (label : Nat) (f : LineRec → State → State × Response) (s : State) : State × Response :=
  match s.table.find label with
  | none => refuse .absent s
  | some r => f r s

/-- The occupancy of a record, when it is the occupied record. -/
def State.occupancyOf (s : State) (label : Nat) : Option Occ :=
  match s.eng.occ with
  | none => none
  | some o => if o.label = label then some o else none

/-- The records of the table replaced. -/
def State.setRecords (s : State) (rs : List LineRec) : State := { s with table := { s.table with records := rs } }

/-- N and W lie in their ranges (R71). -/
def placeInRange (n w : Int) : Bool :=
  decide (-Config.nominalMax ≤ n) && decide (n ≤ Config.nominalMax) && decide (1000 ≤ w) && decide (w ≤ 50000000)

/-- A window overlaps or touches that of a record other than the one of `label` (R80, R82). -/
def Table.clashes (t : Table) (label : Nat) (n w : Int) : Bool :=
  t.records.any fun r => decide (r.label ≠ label) && windowsClash n w r.n r.w

/-! ### INSERT_RECORD (R80, R81) -/

/-- The record a request inserts (R71). -/
def newRecord (q : InsertReq) (state : RecState) : LineRec where
  label := q.label.toNat
  n := q.n.toInt
  w := q.w.toInt
  quotaF := q.quotaF.toNat
  quotaB := q.quotaB.toNat
  state := state
  accF := .empty
  accB := .empty
  last := none
  misses := 0
  rejects := .zero

/-- The checks and effects of INSERT_RECORD. -/
def insertRecord (q : InsertReq) (s : State) : State × Response :=
  match placeInRange q.n.toInt q.w.toInt, askedState q.state with
  | true, some state =>
    if Config.tableDepth ≤ s.table.records.length then refuse .full s
    else if (s.table.find q.label.toNat).isSome then refuse .exists s
    else if s.table.clashes q.label.toNat q.n.toInt q.w.toInt then refuse .overlap s
    else (s.setRecords (insertByN (newRecord q state) s.table.records), accepted false)
  | _, _ => refuse .range s

/-- INSERT_RECORD. -/
def execInsertRecord (q : InsertReq) (s : State) : Host.Outcome State Fault Refusal :=
  complete (.insertRecord q) (insertRecord q) s

/-! ### CHANGE_RECORD (R82, R83) -/

/-- The record with the present fields set. -/
def changedRecord (q : ChangeReq) (r : LineRec) : LineRec :=
  { r with
    n := (signed q.n).getD r.n
    w := (signed q.w).getD r.w
    quotaF := (q.quotaF.map BitVec.toNat).getD r.quotaF
    quotaB := (q.quotaB.map BitVec.toNat).getD r.quotaB }

/-- A present nonzero quota is lower than the count of its direction (R82 check 3). -/
def quotaBelow (v : Option (BitVec 16)) (count : Nat) : Bool :=
  match v with
  | none => false
  | some v => decide (v.toNat ≠ 0) && decide (v.toNat < count)

/-- A present N or W lies outside its range (R82 check 2); the values kept are not judged. -/
def changePlaceBad (q : ChangeReq) : Bool :=
  !placeInRange ((signed q.n).getD 0) ((signed q.w).getD 1000)

/-- The occupancy forbids the change (R82 check 4). -/
def State.changeOccupied (s : State) (q : ChangeReq) (r : LineRec) : Bool :=
  match s.occupancyOf r.label with
  | none => false
  | some o => q.n.isSome || q.w.isSome || !({ changedRecord q r with state := (changedRecord q r).settledState }).eligible o.dir

/-- The state after a change: an ARMED or COMPLETE record is placed in its settled state (R83). -/
def LineRec.reevaluated (r : LineRec) : LineRec :=
  match r.state with
  | .armed => r.settled
  | .complete => r.settled
  | _ => r

/-- The checks and effects of CHANGE_RECORD on a record held. -/
def changeRecordOn (q : ChangeReq) (r : LineRec) (s : State) : State × Response :=
  let r' := (changedRecord q r).reevaluated
  if changePlaceBad q then refuse .range s
  else if quotaBelow q.quotaF r.accF.n || quotaBelow q.quotaB r.accB.n then refuse .range s
  else if s.changeOccupied q r then refuse .occupied s
  else if s.table.clashes r.label r'.n r'.w then refuse .overlap s
  else
    ((s.setRecords (insertByN r' (s.table.records.filter fun x => decide (x.label ≠ r.label)))).raiseIfCompleted r r',
      accepted false)

/-- The checks and effects of CHANGE_RECORD. -/
def changeRecord (q : ChangeReq) (s : State) : State × Response :=
  if q.unlisted ≠ 0 then refuse .range s else onRecord q.label.toNat (changeRecordOn q) s

/-- CHANGE_RECORD. -/
def execChangeRecord (q : ChangeReq) (s : State) : Host.Outcome State Fault Refusal :=
  complete (.changeRecord q) (changeRecord q) s

/-! ### RETIRE_RECORD (R84) -/

/-- The record removed; its occupancy ends and counts nothing (R125). -/
def retireRecordOn (r : LineRec) (s : State) : State × Response :=
  let s' := s.setRecords (s.table.records.filter fun x => decide (x.label ≠ r.label))
  (if (s.occupancyOf r.label).isSome then s'.vacate else s', accepted false)

/-- RETIRE_RECORD. -/
def execRetireRecord (label : BitVec 16) (s : State) : Host.Outcome State Fault Refusal :=
  complete (.retireRecord label) (onRecord label.toNat retireRecordOn) s

/-! ### SET_RECORD_STATE (R85) -/

/-- The record after SET_RECORD_STATE asks ARMED. -/
def LineRec.armed (r : LineRec) : LineRec :=
  match r.state with
  | .armed => r
  | .paused => r.settled
  | .suspect => { r with misses := 0 }.settled
  | .complete => r

/-- The record after SET_RECORD_STATE. -/
def LineRec.asked (r : LineRec) (state : RecState) : LineRec :=
  match state with
  | .armed => r.armed
  | _ => { r with state := .paused }

/-- The checks and effects of SET_RECORD_STATE on a record held. -/
def setRecordStateOn (state : Byte) (r : LineRec) (s : State) : State × Response :=
  match askedState state with
  | none => refuse .range s
  | some st =>
    if (s.occupancyOf r.label).isSome then refuse .occupied s
    else
      ({ s with table := s.table.modify r.label fun x => x.asked st }.raiseIfCompleted r (r.asked st),
        accepted false)

/-- SET_RECORD_STATE. -/
def execSetRecordState (label : BitVec 16) (state : Byte) (s : State) : Host.Outcome State Fault Refusal :=
  complete (.setRecordState label state) (onRecord label.toNat (setRecordStateOn state)) s

/-! ### CLEAR_RESULTS (R86, R87) -/

/-- The effects of CLEAR_RESULTS on a record held. -/
def clearResultsOn (r : LineRec) (s : State) : State × Response :=
  ({ s with table := s.table.modify r.label LineRec.cleared }, accepted false)

/-- The checks and effects of CLEAR_RESULTS with a label. -/
def clearResults (label : BitVec 16) (unlisted : BitVec 7) (s : State) : State × Response :=
  if unlisted ≠ 0 then refuse .range s else onRecord label.toNat clearResultsOn s

/-- CLEAR_RESULTS with a label. -/
def execClearResults (label : BitVec 16) (unlisted : BitVec 7) (s : State) : Host.Outcome State Fault Refusal :=
  complete (.clearResults label unlisted) (clearResults label unlisted) s

/-- The checks and effects of CLEAR_RESULTS with the mark ALL: every record, and the stray count. -/
def clearResultsAll (unlisted : BitVec 7) (s : State) : State × Response :=
  if unlisted ≠ 0 then refuse .range s
  else
    ({ s with
        table := { s.table with records := s.table.records.map LineRec.cleared }
        eng := { s.eng with strays := 0 } }, accepted false)

/-- CLEAR_RESULTS with the mark ALL. -/
def execClearResultsAll (unlisted : BitVec 7) (s : State) : Host.Outcome State Fault Refusal :=
  complete (.clearResultsAll unlisted) (clearResultsAll unlisted) s

/-! ### Lookups (R88, R89) -/

/-- READ_RECORD. -/
def execReadRecord (label : BitVec 16) (s : State) : Host.Outcome State Fault Refusal :=
  complete (.readRecord label) (onRecord label.toNat fun r s => image (recordImage s r false) s) s

/-- The nearer of two records to a position, the one held already on a tie (R89). -/
def nearer (p : Int) (best : Option LineRec) (r : LineRec) : Option LineRec :=
  match best with
  | none => some r
  | some b => if mag (r.n - p) < mag (b.n - p) then some r else some b

/-- The record of least |N − p|, of the lower N among equals (R89). -/
def Table.nearest (t : Table) (p : Int) : Option LineRec := t.records.foldl (nearer p) none

/-- A position key lies within ±(2^47 − 1) (R89, R90). -/
def keyInRange (p : Int) : Bool := decide (-Config.positionMax ≤ p) && decide (p ≤ Config.positionMax)

/-- The checks and answer of FIND_POSITION. -/
def findPosition (p : Int) (s : State) : State × Response :=
  if keyInRange p = false then refuse .range s
  else match s.table.at p with
    | some r => image (recordImage s r true) s
    | none =>
      match s.table.nearest p with
      | some r => image (recordImage s r false) s
      | none => refuse .absent s

/-- FIND_POSITION. -/
def execFindPosition (p : BitVec 48) (s : State) : Host.Outcome State Fault Refusal :=
  complete (.findPosition p) (findPosition p.toInt) s

/-! ### The scan cursor (R90, R91) -/

/-- The cursor set. -/
def State.setCursor (s : State) (key : Int) (exclusive : Bool) : State :=
  { s with table := { s.table with cursorKey := key, cursorExclusive := exclusive } }

/-- The checks and effects of SEEK. -/
def seek (p : Int) (s : State) : State × Response :=
  if keyInRange p = false then refuse .range s else (s.setCursor p false, accepted false)

/-- SEEK. -/
def execSeek (p : BitVec 48) (s : State) : Host.Outcome State Fault Refusal :=
  complete (.seek p) (seek p.toInt) s

/-- A record lies beyond the cursor (R90). -/
def Table.beyond (t : Table) (r : LineRec) : Bool :=
  if t.cursorExclusive then decide (t.cursorKey < r.n) else decide (t.cursorKey ≤ r.n)

/-- A filter names a record state (R180): bit 0 ARMED, 1 PAUSED, 2 SUSPECT, 3 COMPLETE. -/
def filterHas (filter : Byte) (st : RecState) : Bool := filter.getLsbD st.code

/-- The record of least N beyond the cursor whose state the filter names (R91). -/
def Table.nextRecord (t : Table) (filter : Byte) : Option LineRec :=
  t.records.find? fun r => t.beyond r && filterHas filter r.state

/-- A filter with no bit set, or with any of bits 4 to 7, names no set of states (R91, R180). -/
def filterNames (filter : Byte) : Bool := decide (filter ≠ 0) && decide (filter.toNat < 16)

/-- The end marker of READ_NEXT (R178). -/
def endMarker : Response := ⟨.absent, [1]⟩

/-- The checks and effects of READ_NEXT. -/
def readNext (filter : Byte) (s : State) : State × Response :=
  if filterNames filter = false then refuse .range s
  else match s.table.nextRecord filter with
    | none => (s, endMarker)
    | some r => (s.setCursor r.n true, ⟨.ok, recordImage s r false⟩)

/-- READ_NEXT. -/
def execReadNext (filter : Byte) (s : State) : Host.Outcome State Fault Refusal :=
  complete (.readNext filter) (readNext filter) s

/-! ### Results (R136, R141) -/

/-- READ_RESULT. -/
def execReadResult (label : BitVec 16) (s : State) : Host.Outcome State Fault Refusal :=
  complete (.readResult label) (onRecord label.toNat fun r s => image (resultImage s r) s) s

/-- The answer of READ_INTERVAL. -/
def readInterval (a b : Nat) (s : State) : State × Response :=
  onRecord a (fun ra => onRecord b fun rb s => image (intervalImage ra rb) s) s

/-- READ_INTERVAL. -/
def execReadInterval (a b : BitVec 16) (s : State) : Host.Outcome State Fault Refusal :=
  complete (.readInterval a b) (readInterval a.toNat b.toNat) s

end Sys2Proof.Machine
end

