-- ==== Sys2Proof/Machine/Dispatch.lean ====
section
/-! DEFINITION. One arm for each command: its meaning, by name. -/

namespace Sys2Proof.Machine

def exec (i : Instr) (s : State) : Host.Outcome State Fault Refusal :=
  match i with
  | .powerOn => Sys2Proof.Machine.execPowerOn s
  | .rstnAssert => Sys2Proof.Machine.execRstnAssert s
  | .rstnRelease => Sys2Proof.Machine.execRstnRelease s
  | .conversion => Sys2Proof.Machine.execConversion s
  | .sampleCounted x => Sys2Proof.Machine.execSampleCounted x s
  | .bridgeCheck x => Sys2Proof.Machine.execBridgeCheck x s
  | .coastTimeout x => Sys2Proof.Machine.execCoastTimeout x s
  | .settleComplete x => Sys2Proof.Machine.execSettleComplete x s
  | .saturationSet x => Sys2Proof.Machine.execSaturationSet x s
  | .saturationClear x => Sys2Proof.Machine.execSaturationClear x s
  | .probeComplete x => Sys2Proof.Machine.execProbeComplete x s
  | .update => Sys2Proof.Machine.execUpdate s
  | .envStaleCondition => Sys2Proof.Machine.execEnvStaleCondition s
  | .edgeAccept level t held => Sys2Proof.Machine.execEdgeAccept level t held s
  | .latchComplete => Sys2Proof.Machine.execLatchComplete s
  | .alignedSample => Sys2Proof.Machine.execAlignedSample s
  | .emptyTransaction bits => Sys2Proof.Machine.execEmptyTransaction bits s
  | .requestFrame bytes tail => Sys2Proof.Machine.execRequestFrame bytes tail s
  | .fetch n => Sys2Proof.Machine.execFetch n s
  | .frameError => Sys2Proof.Machine.execFrameError s
  | .unknown => Sys2Proof.Machine.execUnknown s
  | .setChannel q => Sys2Proof.Machine.execSetChannel q s
  | .setQuadrature q => Sys2Proof.Machine.execSetQuadrature q s
  | .setMonitor q => Sys2Proof.Machine.execSetMonitor q s
  | .setCompensation q => Sys2Proof.Machine.execSetCompensation q s
  | .setDetector q => Sys2Proof.Machine.execSetDetector q s
  | .setTraverse q => Sys2Proof.Machine.execSetTraverse q s
  | .setAttention q => Sys2Proof.Machine.execSetAttention q s
  | .channelOn ch => Sys2Proof.Machine.execChannelOn ch s
  | .channelOff ch => Sys2Proof.Machine.execChannelOff ch s
  | .preset ch value => Sys2Proof.Machine.execPreset ch value s
  | .home => Sys2Proof.Machine.execHome s
  | .putEnvironment q => Sys2Proof.Machine.execPutEnvironment q s
  | .anchorTracker nu unlisted => Sys2Proof.Machine.execAnchorTracker nu unlisted s
  | .startPlan count => Sys2Proof.Machine.execStartPlan count s
  | .stopPlan => Sys2Proof.Machine.execStopPlan s
  | .endPass => Sys2Proof.Machine.execEndPass s
  | .probe ch k => Sys2Proof.Machine.execProbe ch k s
  | .insertRecord q => Sys2Proof.Machine.execInsertRecord q s
  | .changeRecord q => Sys2Proof.Machine.execChangeRecord q s
  | .retireRecord label => Sys2Proof.Machine.execRetireRecord label s
  | .setRecordState label state => Sys2Proof.Machine.execSetRecordState label state s
  | .clearResults label unlisted => Sys2Proof.Machine.execClearResults label unlisted s
  | .clearResultsAll unlisted => Sys2Proof.Machine.execClearResultsAll unlisted s
  | .readRecord label => Sys2Proof.Machine.execReadRecord label s
  | .findPosition p => Sys2Proof.Machine.execFindPosition p s
  | .seek p => Sys2Proof.Machine.execSeek p s
  | .readNext filter => Sys2Proof.Machine.execReadNext filter s
  | .readResult label => Sys2Proof.Machine.execReadResult label s
  | .readInterval a b => Sys2Proof.Machine.execReadInterval a b s
  | .readChannel ch => Sys2Proof.Machine.execReadChannel ch s
  | .readCompensation => Sys2Proof.Machine.execReadCompensation s
  | .readTraverse => Sys2Proof.Machine.execReadTraverse s
  | .readProbe => Sys2Proof.Machine.execReadProbe s
  | .readAttention => Sys2Proof.Machine.execReadAttention s
  | .acknowledge set => Sys2Proof.Machine.execAcknowledge set s
  | .resetPart => Sys2Proof.Machine.execResetPart s
  | .csnSeenHigh => Sys2Proof.Machine.execCsnSeenHigh s

end Sys2Proof.Machine
end

