-- ==== Sys2Proof/Machine/Step.lean ====
section
/-! DEFINITION. One step of the part: the command at the front of the queue, run on the part with the queue's rest. -/

namespace Sys2Proof.Machine

/-- One step: take the command at the front of the queue and run it on the part with the queue's rest; on an empty queue the
part idles. DESIGN CHOICE (entry 1): the part acts only in answer to commands, so an empty queue changes nothing. Safe: a tick
of the clock is the command CONVERSION or UPDATE, sent by the environment. -/
def step (s : State) : Host.Outcome State Fault Refusal :=
  match s.pending with
  | [] => .next s
  | c :: rest => exec c { s with pending := rest }

/-- `s` with the command that the word spells at the front of its queue. No row of the table has bits, so no word spells a
command and `s` is unchanged (entry 25). -/
def State.withFetchWord (s : State) (nbits w : Nat) : State :=
  match decodeTableWord nbits w with
  | some c => { s with pending := c :: s.pending }
  | none => s

end Sys2Proof.Machine
end

