-- ==== Sys2Proof/Safety.lean ====
section
/-! DEFINITION. What a sound state of the part is, block by block: the statements about every state that the rules make in
words such as "at every moment", "at most" and "at all times". Each predicate is about the state alone. -/

namespace Sys2Proof.Machine

/-! ### The line table (R71, R72) -/

/-- The table holds at most 2048 records, each with N and W in range, in the order of N with windows that neither overlap nor
touch, and with pairwise distinct labels (R71, R72). -/
structure Table.Ordered (t : Table) : Prop where
  depth : t.records.length ≤ 2048
  nominal : ∀ r ∈ t.records, -(2 ^ 46) ≤ r.n ∧ r.n ≤ 2 ^ 46
  window : ∀ r ∈ t.records, 1000 ≤ r.w ∧ r.w ≤ 50000000
  apart : t.records.Pairwise fun r r' => r.n + r.w < r'.n - r'.w
  labels : t.records.Pairwise fun r r' => r.label ≠ r'.label

/-- An accumulator's quantities agree with one another (R132, R139). -/
structure Acc.Sound (a : Acc) : Prop where
  count : a.n ≤ 65535
  whenEmpty : a.n = 0 → a.sum = 0 ∧ a.sumSq = 0 ∧ a.ext = none
  extremes : a.n ≠ 0 → ∃ m, a.ext = some m ∧ -50000000 ≤ m.min ∧ m.min ≤ m.max ∧ m.max ≤ 50000000 ∧
    m.min * a.n ≤ a.sum ∧ a.sum ≤ m.max * a.n
  squares : 0 ≤ a.sumSq ∧ a.sumSq ≤ a.n * 2500000000000000
  spread : a.sum * a.sum ≤ a.n * a.sumSq

/-- A record's counters lie in their ranges, no count passes a nonzero quota, and the record is COMPLETE or not as its quotas
are met (R71, R73 to R77). -/
structure LineRec.Sound (r : LineRec) : Prop where
  accF : r.accF.Sound
  accB : r.accB.Sound
  quotaF : r.quotaF ≤ 65535 ∧ (r.quotaF ≠ 0 → r.accF.n ≤ r.quotaF)
  quotaB : r.quotaB ≤ 65535 ∧ (r.quotaB ≠ 0 → r.accB.n ≤ r.quotaB)
  complete : r.state = .complete → r.finished = true
  armed : r.state = .armed → r.finished = false
  misses : r.misses ≤ 15
  rejects : r.rejects.miss ≤ 255 ∧ r.rejects.double ≤ 255 ∧ r.rejects.reversal ≤ 255 ∧ r.rejects.width ≤ 255 ∧
    r.rejects.coast ≤ 255 ∧ r.rejects.interrupted ≤ 255

/-- The occupancy belongs to the running pass, to its direction and to a record that is held and eligible in it; a
provisional deviation lies within ±50,000,000 pm, and a spoiled outcome has one of its four reasons (R77, R121). -/
structure State.OccupancySound (s : State) (o : Occ) : Prop where
  running : s.trav.ctl = .running
  direction : s.trav.dir = some o.dir
  entry : o.side = o.dir.firstSide
  record : ∃ r ∈ s.table.records, r.label = o.label ∧ r.eligible o.dir = true
  provisional : ∀ dev pos, o.outcome = .provisional dev pos → -50000000 ≤ dev ∧ dev ≤ 50000000
  spoiled : ∀ reason, o.outcome = .spoiled reason → reason ≠ .miss ∧ reason ≠ .reversal

/-- The table, its results and the occupancy agree (R72, R77, R121, R132). -/
structure State.ResultsSound (s : State) : Prop where
  ordered : s.table.Ordered
  records : ∀ r ∈ s.table.records, r.Sound
  occupancy : ∀ o, s.eng.occ = some o → s.OccupancySound o

/-! ### The channels' counts (R8 to R16) -/

/-- A channel's count, origin, velocity ring and history lie within their limits, and only a channel that is TRACKING or
COASTING is referenced (R8, R9, R13 to R16). -/
structure Channel.Sound (ch : Channel) : Prop where
  count : mag ch.q ≤ 2 ^ 39 - 1
  origin : mag ch.origin ≤ 8 * (2 ^ 39 - 1)
  phase : (0 ≤ ch.phi ∧ ch.phi ≤ 4095) ∧ (0 ≤ ch.phiOld ∧ ch.phiOld ≤ 4095)
  radius : 0 ≤ ch.r ∧ ch.r ≤ 46340
  ring : ch.ring.length = 16 ∧ ∀ x ∈ ch.ring, mag x ≤ 1536
  limit : 256 ≤ ch.mon.limit ∧ ch.mon.limit ≤ 1536
  history : ch.history.length ≤ 33 ∧ ∀ e ∈ ch.history, e.k < ch.next ∧ mag e.q ≤ 2 ^ 39 - 1
  ascending : ch.history.Pairwise fun e e' => e.k < e'.k
  run : ∀ k, ch.first = some k → k < ch.next
  footing : ch.referenced = true → ch.state.name = .tracking ∨ ch.state.name = .coasting

/-- Raw eighth-counts lie in the range of an origin (R115). -/
def Latched.InRange (l : Latched) : Prop :=
  mag l.rawM ≤ 8 * (2 ^ 39 - 1) ∧ mag l.rawP ≤ 8 * (2 ^ 39 - 1)

/-- Every channel is sound, and so is every edge whose raw eighth-counts may become an origin (R16, R112, R115, R117). -/
structure State.CountsSound (s : State) : Prop where
  channels : ∀ c : Fin 4, (s.chan c).Sound
  edges : ∀ e ∈ s.eng.latches, (0 ≤ e.fine ∧ e.fine ≤ 7) ∧ ∀ l, e.latch = some l → l.InRange
  pulse : ∀ p, s.eng.pulse = some p → p.lead.InRange

/-! ### Roles, index and factors (R20, R49, R58, R63) -/

/-- FC0 holds MEASURE and no other channel does; PARTNER and TRACKER are held by at most one channel each; the TRACKER source
has its channel; and an anchor is held only while that channel is TRACKING (R20, R58). -/
structure State.RolesSound (s : State) : Prop where
  measure : ∀ c : Fin 4, (s.chan c).role = .measure ↔ c = 0
  partner : ∀ c c' : Fin 4, (s.chan c).role = .partner → (s.chan c').role = .partner → c = c'
  tracker : ∀ c c' : Fin 4, (s.chan c).role = .tracker → (s.chan c').role = .tracker → c = c'
  source : s.comp.source = .tracker → ∃ c : Fin 4, (s.chan c).role = .tracker
  anchor : s.comp.anchor ≠ none → ∃ c : Fin 4, (s.chan c).role = .tracker ∧ (s.chan c).state = .tracking

/-- Every index lies within 0..400,000 ppb, and the length factor of every channel is the one R63 forms from its wavelength,
its pass factor and the index applied. -/
structure State.IndexSound (s : State) : Prop where
  target : 0 ≤ s.comp.nuTarget ∧ s.comp.nuTarget ≤ 400000
  applied : 0 ≤ s.comp.nuApplied ∧ s.comp.nuApplied ≤ 400000
  slew : 1 ≤ s.comp.sNu
  datum : ∀ c : Fin 4, 0 ≤ (s.chan c).nu0 ∧ (s.chan c).nu0 ≤ 400000
  factors : ∀ c : Fin 4, s.comp.factors[c] = lengthFactor (s.chan c).lambda (s.chan c).passK s.comp.nuApplied

/-! ### The attention unit (R146, R147, R149) -/

/-- A source's level lies in 0..7; while it is pending its count is 1..255 and its detail is one of its own; and a condition
source is pending at every moment its condition holds (R146, R147, R149). -/
structure State.AttentionSound (s : State) : Prop where
  threshold : s.att.threshold ≤ 7
  levels : ∀ i : Fin 16, (s.source i).level ≤ 7
  counts : ∀ i : Fin 16, ∀ r, (s.source i).raised = some r → 1 ≤ r.count ∧ r.count ≤ 255 ∧ r.detail.source = i
  lost : ∀ c : Fin 4, (s.chan c).state = .lost → (s.source ⟨c.val, by omega⟩).raised ≠ none
  stale : s.comp.stale = true → (s.source 6).raised ≠ none

/-! ### The traverse controller, the detector and the port (R93, R97, R98, R109, R112, R168) -/

/-- A beam monitor's settings lie in the ranges of R26. -/
structure MonSet.InRange (m : MonSet) : Prop where
  rLow : 0 ≤ m.rLow ∧ m.rLow ≤ 46340
  rHyst : 0 ≤ m.rHyst ∧ m.rHyst ≤ 8191
  rHigh : 0 ≤ m.rHigh ∧ m.rHigh ≤ 46340
  nd : 1 ≤ m.nd ∧ m.nd ≤ 64
  nr : 1 ≤ m.nr ∧ m.nr ≤ 64
  tShort : 1 ≤ m.tShort ∧ m.tShort ≤ 2000
  tSettle : 1 ≤ m.tSettle ∧ m.tSettle ≤ 255
  tol : 64 ≤ m.tol ∧ m.tol ≤ 1024
  limit : 256 ≤ m.limit ∧ m.limit ≤ 1536

/-- Quadrature codes lie in the ranges of R6. -/
structure Codes.InRange (c : Codes) : Prop where
  offS : -8192 ≤ c.offS ∧ c.offS ≤ 8191
  offC : -8192 ≤ c.offC ∧ c.offC ≤ 8191
  g : 0 ≤ c.g ∧ c.g ≤ 65535
  hs : 0 ≤ c.hs ∧ c.hs ≤ 32767
  p : -16384 ≤ c.p ∧ c.p ≤ 16383

/-- A channel's settings lie in the ranges of R21, its codes and its monitor's in theirs. -/
structure Channel.SettingsInRange (ch : Channel) : Prop where
  passK : ch.passK = 1 ∨ ch.passK = 2 ∨ ch.passK = 4 ∨ ch.passK = 8
  lambda : 400000000 ≤ ch.lambda ∧ ch.lambda ≤ 1000000000
  datum : 0 ≤ ch.datum ∧ ch.datum ≤ 4000000
  step : -2047 ≤ ch.step ∧ ch.step ≤ 2047
  codes : ch.codes.InRange
  monitor : ch.mon.InRange

/-- The compensation unit's settings lie in the ranges of R48, and the environment record in those of R54. -/
structure Comp.SettingsInRange (c : Comp) : Prop where
  nuFixed : 0 ≤ c.nuFixed ∧ c.nuFixed ≤ 400000
  a : 600000 ≤ c.a ∧ c.a ≤ 1000000
  b : 0 ≤ c.b ∧ c.b ≤ 1000
  ageLimit : 1 ≤ c.ageLimit ∧ c.ageLimit ≤ 600
  lt : c.lt = 0 ∨ (1000 ≤ c.lt ∧ c.lt ≤ 2000000)
  sNu : 1 ≤ c.sNu ∧ c.sNu ≤ 1000
  sT : 1 ≤ c.sT ∧ c.sT ≤ 1000
  rb : -262144 ≤ c.rb ∧ c.rb ≤ 262143
  alpha : 0 ≤ c.alpha ∧ c.alpha ≤ 30000
  force : (600000 ≤ c.forceA ∧ c.forceA ≤ 1000000) ∧ 0 ≤ c.forceB ∧ c.forceB ≤ 1000
  tAir : ∀ v, c.env.tAir = some v → -10000 ≤ v ∧ v ≤ 50000
  tScale : ∀ v, c.env.tScale = some v → -10000 ≤ v ∧ v ≤ 50000
  pressure : ∀ v, c.env.p = some v → 50000 ≤ v ∧ v ≤ 120000
  vapour : ∀ v, c.env.e = some v → 0 ≤ v ∧ v ≤ 10000
  age : c.age ≤ 2 ^ 32 - 1

/-- The plan, the counters, every setting of the channels, of the compensation unit, of the traverse controller and of the
registration engine, the positions, and the response held, lie within their limits (R6, R21, R26, R48, R54, R69, R93, R94, R97,
R98, R105, R109, R112, R123, R168). -/
structure State.LimitsSound (s : State) : Prop where
  channels : ∀ c : Fin 4, (s.chan c).SettingsInRange
  compensation : s.comp.SettingsInRange
  remaining : s.trav.remaining ≤ 65535
  openPlan : s.trav.counted = false → s.trav.remaining = 0
  passNumber : s.trav.passNo < 2 ^ 32
  broken : s.trav.broken ≤ 65535
  direction : s.trav.ctl = .running → s.trav.dir ≠ none
  span : -(2 ^ 47 - 1) ≤ s.trav.sLo ∧ s.trav.sLo < s.trav.sHi ∧ s.trav.sHi ≤ 2 ^ 47 - 1
  speeds : (1 ≤ s.trav.vStart ∧ s.trav.vStart ≤ 1000000) ∧ (1 ≤ s.trav.vRev ∧ s.trav.vRev ≤ 1000000)
  ring : s.trav.ring.length ≤ 17 ∧ ∀ p ∈ s.trav.ring, mag p ≤ 2 ^ 47 - 1
  aligned : ∀ p, s.trav.latest = some p → mag p ≤ 2 ^ 47 - 1
  realTime : ∀ p, s.tracks.rt = some p → mag p ≤ 2 ^ 47 - 1
  filter : (0 ≤ s.eng.filter ∧ s.eng.filter ≤ 15) ∧ 0 ≤ s.eng.priorFilter ∧ s.eng.priorFilter ≤ 15
  delay : 0 ≤ s.eng.delay ∧ s.eng.delay ≤ 240
  band : 0 ≤ s.eng.wMin ∧ s.eng.wMin ≤ s.eng.wMax ∧ s.eng.wMax ≤ 50000000
  missLimit : 0 ≤ s.eng.missLimit ∧ s.eng.missLimit ≤ 15
  latches : s.eng.latches.length ≤ 64
  strays : s.eng.strays ≤ 65535
  response : ∀ r, s.port.link = .holding r → r.payload.length ≤ 255

/-! ### What a loss does (R36, R104) -/

/-- From `s` to `t` channel `c` is lost with a reason: LOST, unreferenced, and LOSTn is raised with the reason (R36). A loss of
MEASURE or PARTNER leaves no pass running; where the aligned track had nothing to reach first (entry 8), the pass that ran has
ended BROKEN, its occupancy closed (R104, R105). -/
structure State.Loses (s t : State) (c : Fin 4) (reason : Loss) : Prop where
  state : (t.chan c).state = .lost
  named : (t.chan c).loss = reason
  referenced : (t.chan c).referenced = false
  raised : ∃ n, (t.source ⟨c.val, by omega⟩).raised = some ⟨n, .lost c reason⟩
  noPass : (s.chan c).role = .measure ∨ (s.chan c).role = .partner → t.trav.ctl ≠ .running
  broken : (s.chan c).role = .measure ∨ (s.chan c).role = .partner → ∀ d, s.trav.ctl = .running → s.trav.dir = some d →
    s.tracks.alignedLimit ≤ s.tracks.alignedNext →
    t.trav.broken = min 65535 (s.trav.broken + 1) ∧ t.eng.occ = none ∧
      ∃ n, (t.source 9).raised = some ⟨n, .passEnd s.trav.passNo d .broken⟩

/-! ### Settings: what only a request or a reset changes -/

/-- The commands that change no setting: all but the resets, the setting requests, PUT_ENVIRONMENT, the edits of the records'
places and quotas, and the two that move the scan cursor. -/
def keepsSettings : Instr → Bool
  | .powerOn => false
  | .rstnAssert => false
  | .rstnRelease => false
  | .conversion => true
  | .sampleCounted _ => true
  | .bridgeCheck _ => true
  | .coastTimeout _ => true
  | .settleComplete _ => true
  | .saturationSet _ => true
  | .saturationClear _ => true
  | .probeComplete _ => true
  | .update => true
  | .envStaleCondition => true
  | .edgeAccept _ _ _ => true
  | .latchComplete => true
  | .alignedSample => true
  | .emptyTransaction _ => true
  | .requestFrame _ _ => true
  | .fetch _ => true
  | .frameError => true
  | .unknown => true
  | .setChannel _ => false
  | .setQuadrature _ => false
  | .setMonitor _ => false
  | .setCompensation _ => false
  | .setDetector _ => false
  | .setTraverse _ => false
  | .setAttention _ => false
  | .channelOn _ => true
  | .channelOff _ => true
  | .preset _ _ => true
  | .home => true
  | .putEnvironment _ => false
  | .anchorTracker _ _ => true
  | .startPlan _ => true
  | .stopPlan => true
  | .endPass => true
  | .probe _ _ => true
  | .insertRecord _ => false
  | .changeRecord _ => false
  | .retireRecord _ => false
  | .setRecordState _ _ => true
  | .clearResults _ _ => true
  | .clearResultsAll _ => true
  | .readRecord _ => true
  | .findPosition _ => true
  | .seek _ => false
  | .readNext _ => false
  | .readResult _ => true
  | .readInterval _ _ => true
  | .readChannel _ => true
  | .readCompensation => true
  | .readTraverse => true
  | .readProbe => true
  | .readAttention => true
  | .acknowledge _ => true
  | .resetPart => false
  | .csnSeenHigh => true

/-- Two states hold the same settings: of every channel and its monitor, of the compensation unit with the environment record,
of the traverse controller, of the detector, of the attention unit; the same records, by label, N, W and quotas, with the
same cursor; the same level of RSTN; and the same commands wait. -/
structure State.SameSettings (s t : State) : Prop where
  channels : ∀ c : Fin 4, (t.chan c).role = (s.chan c).role ∧ (t.chan c).sense = (s.chan c).sense ∧
    (t.chan c).passK = (s.chan c).passK ∧ (t.chan c).lambda = (s.chan c).lambda ∧ (t.chan c).datum = (s.chan c).datum ∧
    (t.chan c).source = (s.chan c).source ∧ (t.chan c).step = (s.chan c).step ∧ (t.chan c).codes = (s.chan c).codes ∧
    (t.chan c).mon = (s.chan c).mon
  index : t.comp.source = s.comp.source ∧ t.comp.nuFixed = s.comp.nuFixed ∧ t.comp.a = s.comp.a ∧ t.comp.b = s.comp.b ∧
    t.comp.ageLimit = s.comp.ageLimit ∧ t.comp.lt = s.comp.lt ∧ t.comp.policy = s.comp.policy ∧ t.comp.sNu = s.comp.sNu ∧
    t.comp.sT = s.comp.sT ∧ t.comp.rb = s.comp.rb ∧ t.comp.alpha = s.comp.alpha ∧ t.comp.env = s.comp.env
  traverse : t.trav.sLo = s.trav.sLo ∧ t.trav.sHi = s.trav.sHi ∧ t.trav.vStart = s.trav.vStart ∧ t.trav.vRev = s.trav.vRev
  detector : t.eng.mode = s.eng.mode ∧ t.eng.filter = s.eng.filter ∧ t.eng.delay = s.eng.delay ∧ t.eng.wMin = s.eng.wMin ∧
    t.eng.wMax = s.eng.wMax ∧ t.eng.missLimit = s.eng.missLimit ∧ t.eng.priorFilter = s.eng.priorFilter ∧
    t.eng.filterClock = s.eng.filterClock
  attention : t.att.threshold = s.att.threshold ∧
    ∀ i : Fin 16, (t.source i).level = (s.source i).level ∧ (t.source i).action = (s.source i).action
  records : t.table.records.map (fun r => (r.label, r.n, r.w, r.quotaF, r.quotaB)) =
    s.table.records.map fun r => (r.label, r.n, r.w, r.quotaF, r.quotaB)
  cursor : t.table.cursorKey = s.table.cursorKey ∧ t.table.cursorExclusive = s.table.cursorExclusive
  pins : t.rstnLow = s.rstnLow
  queue : t.pending = s.pending

end Sys2Proof.Machine
end

