-- ==== Sys2Proof/Certificates/Slice0/Obligations.lean ====
section
/-! DEFINITION. The statements for the provers. Each docstring names the rules of spec/ that its statement formalises, and
the assumption-log entry where it rests on a choice of the model. A request's own command is its completion; `s.awaits i`
says that the request in process of `s` is the one that `i` completes. -/

open Sys2Proof Sys2Proof.Machine

/-! ### The queue, the resets and the port (chapter 9) -/

/-- The front command of the queue is run on the part with the queue's rest: a step takes whole commands one at a time, in
the order in which they wait. -/
def Obligations.StepRunsTheFrontCommand : Prop :=
  ∀ (c : Instr) (rest : List Instr) (s : State),
    step { s with pending := c :: rest } = exec c { s with pending := rest }

/-- R24, R26, R28: what every reset leaves in each channel and its monitor; FC0 is MEASURE and the others are PLAIN. The
fields `first`, `next` and `onAt` are the model's (sample numbering restarts, R24; entry 9). R44, R45, R47, R92, R93, R130,
R148, R176: what power-on leaves in the blocks beside the channels. `forceA`, `forceB` and `forcePolicy` hold the defaults
of the settings they follow (entry 14), the fields of the tracks are the model's (entries 8 and 10), and so are `priorFilter`
and `filterClock` (entry 37). -/
def Obligations.ResetLeavesEveryBlockAtItsDefaults : Prop :=
  (∀ c : Fin 4, State.reset.chan c =
     { role := if c = 0 then .measure else .plain
       sense := .plus, passK := 4, lambda := 632991212, datum := 0, source := .port, step := 0
       codes := ⟨0, 0, 32768, 0, 0⟩
       mon := ⟨2000, 500, 40000, 8, 16, 500, 20, 512, 1024⟩
       x := 0, y := 0, phi := 0, r := 0, phiOld := 0, synPhase := 0, q := 0, origin := 0, referenced := false, nu0 := 0
       ring := [0, 0, 0, 0, 0, 0, 0, 0, 0, 0, 0, 0, 0, 0, 0, 0]
       history := [], state := .off, loss := .none, beam := false, settleRun := 0, sat := false, overRun := 0, calmRun := 0
       first := none, next := 0, onAt := 0 }) ∧
  (let s := State.reset
   s.probe = ⟨none, none⟩ ∧
   (s.comp.source = .fixed ∧ s.comp.nuFixed = 0 ∧ s.comp.a = 784049 ∧ s.comp.b = 380 ∧ s.comp.ageLimit = 30 ∧
     s.comp.lt = 0 ∧ s.comp.policy = .step ∧ s.comp.sNu = 10 ∧ s.comp.sT = 5 ∧ s.comp.rb = 0 ∧ s.comp.alpha = 0 ∧
     s.comp.env = ⟨none, none, none, none⟩ ∧ s.comp.age = 0 ∧ s.comp.fresh = false ∧ s.comp.stale = false ∧
     s.comp.anchor = none ∧ s.comp.nuTarget = 0 ∧ s.comp.nuApplied = 0 ∧ s.comp.tTarget = none ∧
     s.comp.tApplied = none ∧ ∀ c : Fin 4, s.comp.factors[c] = 20741856035) ∧
   s.table = ⟨[], -(2 ^ 47 - 1), false⟩ ∧
   s.trav = ⟨.idle, true, 0, 0, none, 0, -(2 ^ 47 - 1), 2 ^ 47 - 1, 100, 50, [], none⟩ ∧
   s.eng = ⟨.edgeRise, 2, 0, 500, 20000000, 0, 2, -1, none, none, [], none, none, 0, false⟩ ∧
   (s.att.threshold = 0 ∧ ∀ i : Fin 16, s.source i = ⟨0, .none, none⟩) ∧
   (s.port.link = .empty ∧ s.rdy = true ∧ s.win = false ∧ s.attn = false ∧ s.mstop = false) ∧
   s.conversions = 0)

/-- The invariants hold at reset. -/
def Obligations.ResetStateIsSound : Prop :=
  State.reset.ResultsSound ∧ State.reset.CountsSound ∧ State.reset.RolesSound ∧ State.reset.IndexSound ∧
    State.reset.AttentionSound ∧ State.reset.LimitsSound

/-- R24, R47, R92, R93, R130, R148, R176: power-on and RSTN put every block in its reset state; RSTN low is released by
RSTN_RELEASE, and CSN seen high gives the port its footing. That POWER_ON keeps the level of RSTN is the model's choice
(entry 19), and the queue is the model's own. -/
def Obligations.PowerOnAndRstnResetThePart : Prop :=
  (∀ s : State, exec .powerOn s = .next { State.reset with rstnLow := s.rstnLow, pending := s.pending }) ∧
  (∀ s : State, exec .rstnAssert s = .next { State.reset with rstnLow := true, pending := s.pending }) ∧
  (∀ s : State, s.rstnLow = true → exec .rstnRelease s = .next { State.reset with pending := s.pending }) ∧
  (∀ s : State, s.rstnLow = false →
    exec .csnSeenHigh s = .next { s with port := { s.port with footing := true } })

/-- R174, R175, R92: a RESET_PART frame that passes its checks begins a soft reset at its acceptance, which discards the
pass, the occupancy, the latch list, the open pulse and the probe run and raises nothing; its completion puts every block
at its defaults, keeps the records of the line table, and leaves OK in the slot. What SDO drove and the port's footing stay,
and the controller is IDLE from the acceptance on (entry 21). -/
def Obligations.ResetPartKeepsTheRecords : Prop :=
  (∀ (b : Byte) (bs : List Byte) (s : State), s.rstnLow = false → s.port.footing = true → b ≠ 0 →
    (s.port.link = .empty ∨ ∃ r, s.port.link = .holding r) → completionOf (frameOf (b :: bs) 0) = .resetPart →
    exec (.requestFrame (b :: bs) 0) s = .next
      { s with
        trav := { s.trav with ctl := .idle }
        eng := { s.eng with occ := none, latches := [], pulse := none }
        probe := { s.probe with run := none }
        port := ⟨true, .resetting, List.replicate (bs.length + 1) 0xFF#8⟩ }) ∧
  (∀ s : State, s.port.link = .resetting →
    exec .resetPart s = .next
      { State.reset with
        rstnLow := s.rstnLow
        table := ⟨s.table.records, -(2 ^ 47 - 1), false⟩
        port := { s.port with link := .holding ⟨.ok, []⟩ }
        pending := s.pending })

/-- R2: a conversion is issued while the part is out of reset, and the next one has the next number. R2, R3, R174, R176:
while RSTN is low or RESET_PART is in progress no conversion is issued, no sample is counted, no update is made and the
strobe path stands still, and ATTN, MSTOP and WIN are released. -/
def Obligations.SamplesAndUpdatesPauseDuringAReset : Prop :=
  (∀ s : State, s.rstnLow = false → s.port.link ≠ .resetting →
     exec .conversion s = .next { s with conversions := s.conversions + 1 }) ∧
  (∀ (s : State) (x : SampleIn) (level : Bool) (t held : Nat), s.rstnLow = true ∨ s.port.link = .resetting →
     (exec .conversion s = .next s ∧ exec (.sampleCounted x) s = .next s ∧ exec (.bridgeCheck x) s = .next s ∧
       exec (.coastTimeout x) s = .next s ∧ exec (.settleComplete x) s = .next s ∧ exec (.saturationSet x) s = .next s ∧
       exec (.saturationClear x) s = .next s ∧ exec (.probeComplete x) s = .next s ∧ exec .update s = .next s ∧
       exec .envStaleCondition s = .next s ∧ exec (.edgeAccept level t held) s = .next s ∧
       exec .latchComplete s = .next s ∧ exec .alignedSample s = .next s) ∧
     s.attn = false ∧ s.mstop = false ∧ s.win = false)

/-- R161, R159: a request frame is accepted when no request is in process: the slot is emptied, and FFh was driven during
every byte of it; it is discarded as OVERRUN while a request is in process, and discarded without a raising while RESET_PART
is in progress. R176: a transaction whose CSN was already low at the release is ignored whole; its CSN rise lets the port
see CSN high (entry 20). While RSTN is low the port ignores the link. That SDO's bytes stay those of the latest transaction
judged through one that is ignored is the model's choice (entry 4). -/
def Obligations.TransactionsNeedTheirFooting : Prop :=
  (∀ (b : Byte) (bs : List Byte) (tail : Nat) (s : State), s.rstnLow = false → s.port.footing = true → b ≠ 0 → tail < 8 →
     let f : Frame := ⟨(b :: bs).take 99, bs.length + 1, tail⟩
     let driven : List Byte := List.replicate (bs.length + 1) 0xFF#8
     ((s.port.link = .empty ∨ ∃ r, s.port.link = .holding r) → completionOf f ≠ .resetPart →
       exec (.requestFrame (b :: bs) tail) s = .next { s with port := ⟨true, .processing f, driven⟩ }) ∧
     (∀ g, s.port.link = .processing g →
       exec (.requestFrame (b :: bs) tail) s =
         .next (({ s with port := { s.port with sdo := driven } }).raise (.linkFault .overrun b))) ∧
     (s.port.link = .resetting →
       exec (.requestFrame (b :: bs) tail) s = .next { s with port := { s.port with sdo := driven } })) ∧
  (∀ (b : Byte) (bs : List Byte) (tail n bits : Nat) (s : State), b ≠ 0 → tail < 8 → s.port.footing = false →
     let t := if s.rstnLow then s else { s with port := { s.port with footing := true } }
     exec (.requestFrame (b :: bs) tail) s = .next t ∧ exec (.fetch n) s = .next t ∧
       exec (.emptyTransaction bits) s = .next t)

/-- R166, R168, R159: a fetch of n bytes after the first drives FFh and then the response in the slot (status, length,
payload and CRC), or NOT_READY where the slot holds none, and FFh after its end; it changes nothing else. A transaction of
fewer than 8 bits changes nothing at all. -/
def Obligations.FetchDrivesTheResponse : Prop :=
  (∀ (n : Nat) (s : State), s.rstnLow = false → s.port.footing = true →
    (∀ r, s.port.link = .holding r →
      let body := r.status.code :: BitVec.ofNat 8 r.payload.length :: r.payload
      exec (.fetch n) s = .next { s with port := { s.port with
        sdo := 0xFF#8 :: (body ++ [crc body] ++ List.replicate n 0xFF#8).take n } }) ∧
    ((∀ r, s.port.link ≠ .holding r) →
      exec (.fetch n) s = .next { s with port := { s.port with
        sdo := 0xFF#8 :: ([0x02#8, 0x00#8, 0x45#8] ++ List.replicate n 0xFF#8).take n } })) ∧
  (∀ (bits : Nat) (s : State), bits < 8 → s.port.footing = true → exec (.emptyTransaction bits) s = .next s)

/-- R162, R163: an accepted frame whose length is malformed, whose CRC differs or whose payload length is wrong for its
request completes with FRAME_ERROR and raises LINK_FAULT with the reason and the first byte of the frame; a code that names
no request completes with UNKNOWN and changes nothing. -/
def Obligations.BadFramesCompleteWithoutARequest : Prop :=
  (∀ (f : Frame) (s : State), s.port.link = .processing f →
    (f.tail ≠ 0 ∨ f.count < 3 ∨ 96 < f.lengthByte ∨ f.count ≠ f.lengthByte + 3) →
    exec .frameError s = .next ((s.raise (.linkFault .length f.code)).respond ⟨.frameError, []⟩)) ∧
  (∀ (f : Frame) (s : State), s.port.link = .processing f →
    (f.tail = 0 ∧ 3 ≤ f.count ∧ f.lengthByte ≤ 96 ∧ f.count = f.lengthByte + 3) →
    crc (f.code :: BitVec.ofNat 8 f.lengthByte :: f.payload) ≠ f.crcByte →
    exec .frameError s = .next ((s.raise (.linkFault .crc f.code)).respond ⟨.frameError, []⟩)) ∧
  (∀ (f : Frame) (s : State), s.port.link = .processing f →
    (f.tail = 0 ∧ 3 ≤ f.count ∧ f.lengthByte ≤ 96 ∧ f.count = f.lengthByte + 3) →
    crc (f.code :: BitVec.ofNat 8 f.lengthByte :: f.payload) = f.crcByte →
    (parsePayload f.code f.payload = .badLength →
      exec .frameError s = .next ((s.raise (.linkFault .length f.code)).respond ⟨.frameError, []⟩)) ∧
    (parsePayload f.code f.payload = .unknown → exec .unknown s = .next (s.respond ⟨.unknown, []⟩)))

/-- R163, R178 to R180: every request, with every field at every value its width admits, is carried by a frame that the port
takes back as that request. R161, R169: a host can bring every request but RESET_PART into process: there is a frame that
the port, holding no request, accepts and that then awaits the request's completion. -/
def Obligations.FramesCarryTheirRequests : Prop :=
  (∀ i : Instr, i.isRequest = true → i.wellFormed = true →
     ∃ f, encodeFrame i = some f ∧ completionOf f = i) ∧
  (∀ (i : Instr) (s : State), i.isRequest = true → i.wellFormed = true → i ≠ .resetPart → s.rstnLow = false →
     s.port.footing = true → s.port.link = .empty →
     ∃ bytes t, exec (.requestFrame bytes 0) s = .next t ∧ t.awaits i = true)

/-- R164: the CRC starts at FFh; each byte is combined with the register, which is then stepped eight times with 2Fh; running
on through the CRC byte leaves 00h; a request's CRC covers its code, length and payload, and a response's its status, length
and payload. -/
def Obligations.CrcFollowsItsPolynomial : Prop :=
  let stepped : Byte → Byte := fun r => if r.msb then (r <<< 1) ^^^ 0x2F#8 else r <<< 1
  crc [] = 0xFF#8 ∧
  (∀ (bs : List Byte) (b : Byte), crc (bs ++ [b]) = stepped^[8] (crc bs ^^^ b)) ∧
  (∀ bs : List Byte, crc (bs ++ [crc bs]) = 0x00#8) ∧
  (∀ f : Frame, f.badCrc = true ↔ f.crcByte ≠ crc (f.code :: BitVec.ofNat 8 f.lengthByte :: f.payload)) ∧
  ∀ r : Response, r.bytes =
    let covered := r.status.code :: BitVec.ofNat 8 r.payload.length :: r.payload
    covered ++ [crc covered]

/-- R177: a number sent in n bytes is read back as it was, unsigned or in two's complement. R178: the fixed sizes of the
response images. R181: the fields of the record image, of the result image and of the interval image at their offsets, each
as the value that its bytes hold, least significant byte first, with a negative value in two's complement; an absent value is
sent as zeros. -/
def Obligations.NumbersAndImagesHaveTheirWidths : Prop :=
  ((∀ n v : Nat, v < 256 ^ n → (uField n v).length = n ∧ ofLE (uField n v) = v) ∧
   (∀ (n : Nat) (v : Int), -(2 ^ (8 * n - 1)) ≤ v → v < 2 ^ (8 * n - 1) → 0 < n →
     (sField n v).length = n ∧ (BitVec.ofNat (8 * n) (ofLE (sField n v))).toInt = v)) ∧
  (∀ (s : State) (c : Fin 4) (a b : LineRec) (inside : Bool),
     (recordImage s a inside).length = 84 ∧ (resultImage s a).length = 69 ∧ (intervalImage a b).length = 21 ∧
     (channelImage s c).length = 29 ∧ (compensationImage s).length = 60 ∧ (traverseImage s).length = 37 ∧
     (probeImage s.probe).length = 29 ∧ (attentionImage s).length = 148) ∧
  let holds : List Byte → Nat → Nat → Int → Prop := fun image offset width v =>
    ((image.drop offset).take width).foldr (fun byte rest => (byte.toNat : Int) + 256 * rest) 0 = v % 256 ^ width
  let bit : Prop → Nat → Int → Prop := fun p n flags => p ↔ flags / 2 ^ n % 2 = 1
  let stateCode : RecState → Int := fun st => match st with
    | .armed => 0
    | .paused => 1
    | .suspect => 2
    | .complete => 3
  let dirCode : Dir → Int := fun d => match d with
    | .fwd => 0
    | .bwd => 1
  let occupied : State → LineRec → Prop := fun s r => ∃ o, s.eng.occ = some o ∧ o.label = r.label
  let captureAt : List Byte → Nat → Option LastCapture → Prop := fun image at' last =>
    holds image at' 4 ((last.map LastCapture.dev).getD 0) ∧
      holds image (at' + 4) 4 ((last.map fun l => (l.pass : Int)).getD 0) ∧
      holds image (at' + 8) 1 ((last.map fun l => dirCode l.dir).getD 0)
  let rejectsAt : List Byte → Nat → Rejects → Prop := fun image at' c =>
    holds image at' 1 c.miss ∧ holds image (at' + 1) 1 c.double ∧ holds image (at' + 2) 1 c.reversal ∧
      holds image (at' + 3) 1 c.width ∧ holds image (at' + 4) 1 c.coast ∧ holds image (at' + 5) 1 c.interrupted
  let extremesAt : List Byte → Nat → Option MinMax → Prop := fun image at' ext =>
    holds image at' 4 ((ext.map MinMax.min).getD 0) ∧ holds image (at' + 4) 4 ((ext.map MinMax.max).getD 0)
  let accAt : List Byte → Nat → Acc → Prop := fun image at' acc =>
    holds image at' 2 acc.n ∧ holds image (at' + 2) 6 acc.sum ∧
      (0 ≤ acc.sumSq → holds image (at' + 8) 9 acc.sumSq) ∧ extremesAt image (at' + 17) acc.ext
  let directionAt : List Byte → Nat → Nat → Acc → Prop := fun image at' quota acc =>
    holds image at' 2 quota ∧ holds image (at' + 2) 2 acc.n ∧ holds image (at' + 4) 4 (acc.mean.getD 0) ∧
      holds image (at' + 8) 4 (acc.deviation.getD 0) ∧ extremesAt image (at' + 12) acc.ext
  (∀ (s : State) (r : LineRec) (inside : Bool),
    let image := recordImage s r inside
    (holds image 0 2 r.label ∧ holds image 2 6 r.n ∧ holds image 8 4 r.w ∧ holds image 12 2 r.quotaF ∧
      holds image 14 2 r.quotaB ∧ holds image 16 1 (stateCode r.state)) ∧
    (∃ flags, 0 ≤ flags ∧ flags < 2 ^ 5 ∧ holds image 17 1 flags ∧ bit (occupied s r) 0 flags ∧
      bit (r.last ≠ none) 1 flags ∧ bit (r.accF.ext ≠ none) 2 flags ∧ bit (r.accB.ext ≠ none) 3 flags ∧
      bit (inside = true) 4 flags) ∧
    holds image 18 1 r.misses ∧ rejectsAt image 19 r.rejects ∧ accAt image 25 r.accF ∧ accAt image 50 r.accB ∧
    captureAt image 75 r.last) ∧
  (∀ (s : State) (r : LineRec),
    let image := resultImage s r
    (holds image 0 2 r.label ∧ holds image 2 1 (stateCode r.state)) ∧
    (∃ flags, 0 ≤ flags ∧ flags < 2 ^ 10 ∧ holds image 3 2 flags ∧ bit (occupied s r) 0 flags ∧
      bit (r.accF.mean ≠ none) 1 flags ∧ bit (r.accF.deviation ≠ none) 2 flags ∧ bit (r.accF.ext ≠ none) 3 flags ∧
      bit (r.accB.mean ≠ none) 4 flags ∧ bit (r.accB.deviation ≠ none) 5 flags ∧ bit (r.accB.ext ≠ none) 6 flags ∧
      bit (r.centre ≠ none) 7 flags ∧ bit (r.bias ≠ none) 8 flags ∧ bit (r.last ≠ none) 9 flags) ∧
    directionAt image 5 r.quotaF r.accF ∧ directionAt image 25 r.quotaB r.accB ∧
    holds image 45 4 (r.centre.getD 0) ∧ holds image 49 4 (r.bias.getD 0) ∧ captureAt image 53 r.last ∧
    holds image 62 1 r.misses ∧ rejectsAt image 63 r.rejects) ∧
  ∀ a b : LineRec,
    let image := intervalImage a b
    holds image 0 2 a.label ∧ holds image 2 2 b.label ∧ holds image 4 2 a.accF.n ∧ holds image 6 2 a.accB.n ∧
      holds image 8 2 b.accF.n ∧ holds image 10 2 b.accB.n ∧ holds image 12 1 (if interval a b = none then 0 else 1) ∧
      holds image 13 8 ((interval a b).getD 0)

/-- R168, R169: a request in process ends in exactly one response in the slot, whatever the state: its command answers a
next state that holds a response. A request that is not in process has no completion, and nothing changes (entry 2). R173,
R169: a request that is refused has no effect beyond its response. -/
def Obligations.EveryRequestEndsInOneResponse : Prop :=
  (∀ (i : Instr) (s : State), i.isRequest = true → i ≠ .resetPart →
     (s.awaits i = true → ∃ t r, exec i s = .next t ∧ t.port.link = .holding r ∧ r.status ≠ .notReady ∧
       r.status ≠ .frameError ∧ r.status ≠ .unknown) ∧
     (s.awaits i = false → exec i s = .next s)) ∧
  (∀ (i : Instr) (s t : State) (r : Response), i.isRequest = true → i ≠ .resetPart → s.awaits i = true →
     exec i s = .next t → t.port.link = .holding r → r.status ≠ .ok → r.status ≠ .clamped →
     t = { s with port := { s.port with link := .holding r } })

/-- R163 check 3: a presence flag with no field behind it is refused with RANGE, and nothing changes. R7, R17, R18, R19,
R21, R23, R26, R41: a channel number outside 0..3 is refused with RANGE and nothing changes. -/
def Obligations.UnlistedFlagsAndChannelsAreRefused : Prop :=
  (∀ s : State,
     (∀ q, s.awaits (.setChannel q) = true → q.unlisted ≠ 0 → exec (.setChannel q) s = .next (s.respond ⟨.range, []⟩)) ∧
     (∀ q, s.awaits (.setMonitor q) = true → q.unlisted ≠ 0 → exec (.setMonitor q) s = .next (s.respond ⟨.range, []⟩)) ∧
     (∀ q, s.awaits (.setCompensation q) = true → q.unlisted ≠ 0 →
       exec (.setCompensation q) s = .next (s.respond ⟨.range, []⟩)) ∧
     (∀ q, s.awaits (.setDetector q) = true → q.unlisted ≠ 0 → exec (.setDetector q) s = .next (s.respond ⟨.range, []⟩)) ∧
     (∀ q, s.awaits (.setTraverse q) = true → q.unlisted ≠ 0 → exec (.setTraverse q) s = .next (s.respond ⟨.range, []⟩)) ∧
     (∀ q, s.awaits (.setAttention q) = true → q.unlisted ≠ 0 →
       exec (.setAttention q) s = .next (s.respond ⟨.range, []⟩)) ∧
     (∀ q, s.awaits (.putEnvironment q) = true → q.unlisted ≠ 0 →
       exec (.putEnvironment q) s = .next (s.respond ⟨.range, []⟩)) ∧
     (∀ nu u, s.awaits (.anchorTracker nu u) = true → u ≠ 0 →
       exec (.anchorTracker nu u) s = .next (s.respond ⟨.range, []⟩)) ∧
     (∀ q, s.awaits (.changeRecord q) = true → q.unlisted ≠ 0 →
       exec (.changeRecord q) s = .next (s.respond ⟨.range, []⟩)) ∧
     (∀ l u, s.awaits (.clearResults l u) = true → u ≠ 0 → exec (.clearResults l u) s = .next (s.respond ⟨.range, []⟩)) ∧
     (∀ u, s.awaits (.clearResultsAll u) = true → u ≠ 0 →
       exec (.clearResultsAll u) s = .next (s.respond ⟨.range, []⟩))) ∧
  (∀ (ch : Byte) (s : State), 4 ≤ ch.toNat →
     (∀ q, q.ch = ch → q.unlisted = 0 → s.awaits (.setChannel q) = true →
       exec (.setChannel q) s = .next (s.respond ⟨.range, []⟩)) ∧
     (∀ q, q.ch = ch → s.awaits (.setQuadrature q) = true →
       exec (.setQuadrature q) s = .next (s.respond ⟨.range, []⟩)) ∧
     (∀ q, q.ch = ch → q.unlisted = 0 → s.awaits (.setMonitor q) = true →
       exec (.setMonitor q) s = .next (s.respond ⟨.range, []⟩)) ∧
     (s.awaits (.channelOn ch) = true → exec (.channelOn ch) s = .next (s.respond ⟨.range, []⟩)) ∧
     (s.awaits (.channelOff ch) = true → exec (.channelOff ch) s = .next (s.respond ⟨.range, []⟩)) ∧
     (∀ v, s.awaits (.preset ch v) = true → exec (.preset ch v) s = .next (s.respond ⟨.range, []⟩)) ∧
     (∀ k, s.awaits (.probe ch k) = true → exec (.probe ch k) s = .next (s.respond ⟨.range, []⟩)) ∧
     (s.awaits (.readChannel ch) = true → exec (.readChannel ch) s = .next (s.respond ⟨.range, []⟩)))

/-- R23, R45, R70, R88, R107, R136, R141, R154: the readouts complete with OK and the image of the state they find, a label not
held is refused with ABSENT, and none of them changes anything but the response slot. R182, R183: the fields of the block
images and of the attention summary at their offsets, each as the value that its bytes hold, least significant byte first, with
a negative value in two's complement; an absent value is sent as zeros, and so are the bytes of a detail word that its layout
leaves unused. -/
def Obligations.ReadoutsChangeNothing : Prop :=
  (∀ s : State,
    let answers : Instr → Status → List Byte → Prop := fun i st image =>
      s.awaits i = true → exec i s = .next { s with port := { s.port with link := .holding ⟨st, image⟩ } }
    (∀ (ch : Byte) (c : Fin 4), ch.toNat = c.val → answers (.readChannel ch) .ok (channelImage s c)) ∧
    answers .readCompensation .ok (compensationImage s) ∧ answers .readTraverse .ok (traverseImage s) ∧
    answers .readProbe .ok (probeImage s.probe) ∧ answers .readAttention .ok (attentionImage s) ∧
    (∀ (l : BitVec 16) (r : LineRec), s.table.find l.toNat = some r →
      answers (.readRecord l) .ok (recordImage s r false) ∧ answers (.readResult l) .ok (resultImage s r)) ∧
    (∀ l : BitVec 16, s.table.find l.toNat = none →
      answers (.readRecord l) .absent [] ∧ answers (.readResult l) .absent []) ∧
    (∀ (a b : BitVec 16) (ra rb : LineRec), s.table.find a.toNat = some ra → s.table.find b.toNat = some rb →
      answers (.readInterval a b) .ok (intervalImage ra rb)) ∧
    (∀ a b : BitVec 16, s.table.find a.toNat = none ∨ s.table.find b.toNat = none →
      answers (.readInterval a b) .absent [])) ∧
  let holds : List Byte → Nat → Nat → Int → Prop := fun image offset width v =>
    ((image.drop offset).take width).foldr (fun byte rest => (byte.toNat : Int) + 256 * rest) 0 = v % 256 ^ width
  let bit : Prop → Nat → Int → Prop := fun p n flags => p ↔ flags / 2 ^ n % 2 = 1
  let dirCode : Dir → Int := fun d => if d = .fwd then 0 else 1
  let sideCode : Side → Int := fun d => if d = .low then 0 else 1
  let rejectCode : Reject → Int := fun r => match r with
    | .miss => 0
    | .double => 1
    | .reversal => 2
    | .width => 3
    | .coast => 4
    | .interrupted => 5
  let lossCode : Loss → Int := fun r => match r with
    | .none => 0
    | .dropout => 1
    | .slip => 2
    | .overspeed => 3
    | .range => 4
  (∀ (s : State) (c : Fin 4),
    let ch := s.chan c
    let image := channelImage s c
    (holds image 0 1 c.val ∧ holds image 1 1 (match ch.state with
      | .off => 0
      | .settling => 1
      | .tracking => 2
      | .coasting _ => 3
      | .lost => 4) ∧ holds image 2 1 (lossCode ch.loss)) ∧
    (∃ flags, 0 ≤ flags ∧ flags < 2 ^ 3 ∧ holds image 3 1 flags ∧ bit (ch.referenced = true) 0 flags ∧
      bit (ch.beam = true) 1 flags ∧ bit (ch.sat = true) 2 flags) ∧
    holds image 4 5 ch.q ∧ holds image 9 6 ch.origin ∧
    holds image 15 8 (⌊(((8 * ch.q - ch.origin) * s.comp.factors[c] : Int) : ℚ) / 2 ^ 32 + 1 / 2⌋ -
      (ch.datum * (s.comp.nuApplied - ch.nu0)).tdiv 1000) ∧
    (0 ≤ ch.r → holds image 23 2 ch.r) ∧ (0 ≤ ch.phi → holds image 25 2 ch.phi) ∧ holds image 27 2 ch.ring.sum) ∧
  (∀ s : State,
    let c := s.comp
    let image := compensationImage s
    holds image 0 1 (match c.source with
      | .fixed => 0
      | .environment => 1
      | .tracker => 2) ∧
    (∃ flags, 0 ≤ flags ∧ flags < 2 ^ 8 ∧ holds image 1 1 flags ∧ bit (c.fresh = true) 0 flags ∧
      bit (c.anchor ≠ none) 1 flags ∧ bit (c.env.tAir ≠ none) 2 flags ∧ bit (c.env.tScale ≠ none) 3 flags ∧
      bit (c.env.p ≠ none) 4 flags ∧ bit (c.env.e ≠ none) 5 flags ∧ bit (c.tApplied ≠ none) 6 flags ∧
      bit (s.partner ≠ none) 7 flags) ∧
    (holds image 2 4 c.nuTarget ∧ holds image 6 4 c.nuApplied ∧ holds image 10 4 (c.env.tAir.getD 0) ∧
      holds image 14 4 (c.env.tScale.getD 0) ∧ holds image 18 4 (c.env.p.getD 0) ∧ holds image 22 4 (c.env.e.getD 0) ∧
      holds image 26 4 c.age ∧ holds image 30 4 ((c.anchor.map TrackerAnchor.nu).getD 0) ∧
      holds image 34 5 ((c.anchor.map TrackerAnchor.q).getD 0) ∧ holds image 39 4 (c.tApplied.getD 0) ∧
      holds image 43 8 c.factors[0]) ∧
    (s.partner = none → holds image 51 8 0 ∧ holds image 59 1 0) ∧
    ∀ f, s.partner = some f → holds image 51 8 c.factors[f] ∧ holds image 59 1 f.val) ∧
  (∀ s : State,
    let t := s.trav
    let image := traverseImage s
    let full : Prop := t.ring.length = 17
    holds image 0 1 (match t.ctl with
      | .idle => 0
      | .waiting => 1
      | .running => 2) ∧
    (∃ flags, 0 ≤ flags ∧ flags < 2 ^ 8 ∧ holds image 1 1 flags ∧ bit (t.counted = true) 0 flags ∧
      bit (t.dir ≠ none) 1 flags ∧ bit (t.latest ≠ none) 2 flags ∧ bit full 3 flags ∧ bit (s.eng.home = true) 4 flags ∧
      bit (s.eng.occ ≠ none) 5 flags ∧ bit (s.eng.pulse ≠ none) 6 flags ∧
      bit (∃ o, s.eng.occ = some o ∧ o.pending ≠ none) 7 flags) ∧
    (holds image 2 2 t.remaining ∧ holds image 4 4 t.passNo ∧ holds image 8 1 ((t.dir.map dirCode).getD 0) ∧
      holds image 9 2 t.broken ∧ holds image 11 6 (t.latest.getD 0) ∧
      (full → holds image 17 8 (t.ring.getLastD 0 - t.ring.headD 0)) ∧ (¬full → holds image 17 8 0) ∧
      holds image 25 2 s.eng.strays) ∧
    (s.eng.occ = none → holds image 27 10 0) ∧
    ∀ o, s.eng.occ = some o →
      holds image 27 2 o.label ∧ holds image 29 1 (sideCode o.side) ∧ holds image 30 1 (match o.outcome with
        | .none => 0
        | .provisional _ _ => 1
        | .spoiled _ => 2) ∧
      holds image 31 4 (match o.outcome with
        | .provisional dev _ => dev
        | _ => 0) ∧
      holds image 35 1 (match o.outcome with
        | .spoiled r => rejectCode r
        | _ => 0) ∧
      holds image 36 1 ((o.pending.map sideCode).getD 0)) ∧
  (∀ p : Probe,
    let image := probeImage p
    (p.run = none → holds image 0 7 0) ∧
    (∀ run, p.run = some run →
      holds image 0 1 1 ∧ holds image 1 1 run.ch.val ∧ holds image 2 1 run.k ∧ holds image 3 4 run.taken) ∧
    (p.result = none → holds image 7 22 0) ∧
    ∀ r, p.result = some r →
      (∃ flags, 0 ≤ flags ∧ flags < 2 ^ 3 ∧ holds image 7 1 flags ∧ bit True 0 flags ∧ bit (r.ext ≠ none) 1 flags ∧
        bit (r.mean ≠ none) 2 flags) ∧
      holds image 8 1 r.ch.val ∧ holds image 9 1 r.k ∧ holds image 10 1 (if r.aborted then 1 else 0) ∧
      holds image 11 4 r.taken ∧ (r.ext = none → holds image 15 12 0) ∧
      (∀ e, r.ext = some e → holds image 15 2 e.xMin ∧ holds image 17 2 e.xMax ∧ holds image 19 2 e.yMin ∧
        holds image 21 2 e.yMax ∧ (0 ≤ e.rMin → holds image 23 2 e.rMin) ∧ (0 ≤ e.rMax → holds image 25 2 e.rMax)) ∧
      (0 ≤ r.mean.getD 0 → holds image 27 2 (r.mean.getD 0))) ∧
  (∀ s : State,
    let image := attentionImage s
    (∃ pending, 0 ≤ pending ∧ pending < 2 ^ 16 ∧ holds image 0 2 pending ∧
      ∀ i : Fin 16, bit ((s.source i).raised ≠ none) i.val pending) ∧
    holds image 2 1 ((s.firstSource.map fun i => (i.val : Int)).getD 255) ∧
    (∃ lines, 0 ≤ lines ∧ lines < 2 ^ 2 ∧ holds image 3 1 lines ∧ bit (s.attn = true) 0 lines ∧
      bit (s.mstop = true) 1 lines) ∧
    ∀ i : Fin 16,
      ((s.source i).raised = none → holds image (4 + 9 * i.val) 9 0) ∧
      ∀ r, (s.source i).raised = some r →
        holds image (4 + 9 * i.val) 1 r.count ∧ (image.drop (5 + 9 * i.val)).take 8 = r.detail.word) ∧
  (∀ d : Detail,
    let image := d.word
    image.length = 8 ∧
    match d with
    | .lost _ reason => holds image 0 8 (lossCode reason)
    | .bridge ch d => holds image 0 1 ch.val ∧ holds image 1 2 d ∧ holds image 3 5 0
    | .saturate ch => holds image 0 8 ch.val
    | .envStale age => holds image 0 1 (if age = none then 1 else 0) ∧ holds image 1 4 ((age.getD 0 : Nat) : Int) ∧
        holds image 5 3 0
    | .envClamp tAir tScale p e => ∃ flags, 0 ≤ flags ∧ flags < 2 ^ 4 ∧ holds image 0 8 flags ∧ bit (tAir = true) 0 flags ∧
        bit (tScale = true) 1 flags ∧ bit (p = true) 2 flags ∧ bit (e = true) 3 flags
    | .homeDone partner => holds image 0 8 (1 + ((partner.map fun c => (2 : Int) ^ c.val).getD 0))
    | .passEnd number dir kind => holds image 0 4 number ∧ holds image 4 1 (dirCode dir) ∧
        holds image 5 1 (match kind with
          | .turn => 0
          | .span => 1
          | .request => 2
          | .broken => 3) ∧ holds image 6 2 0
    | .planDone stopped => holds image 0 8 (if stopped then 1 else 0)
    | .recComplete label => holds image 0 2 label ∧ holds image 2 6 0
    | .reject label reason => holds image 0 2 label ∧ holds image 2 1 (rejectCode reason) ∧ holds image 3 5 0
    | .stray pos => holds image 0 6 (pos.getD 0) ∧ holds image 6 2 0
    | .probeDone ch aborted => holds image 0 1 ch.val ∧ holds image 1 1 (if aborted then 1 else 0) ∧ holds image 2 6 0
    | .linkFault reason code => holds image 0 1 (match reason with
        | .overrun => 0
        | .crc => 1
        | .length => 2) ∧ holds image 1 1 code.toNat ∧ holds image 2 6 0)

/-! ### Samples, phases and counts (chapters 1 and 2) -/

/-- R6: a PORT sample is corrected in four stages, each rounded downward before the clamp; R9: its radius is the integer
square root of x′² + y′², and a zero point takes the channel's last phase. -/
def Obligations.PortSampleIsCorrected : Prop :=
  ∀ (ch : Channel) (x : SampleIn), ch.source = .port →
    let p := ch.point x
    let cos := x.cos.toInt - ch.codes.offC
    let sin := x.sin.toInt - ch.codes.offS
    (∃ g h : Int,
      (65536 * g ≤ cos * (32768 + ch.codes.g) ∧ cos * (32768 + ch.codes.g) < 65536 * (g + 1)) ∧
      (65536 * h ≤ sin * (65536 + ch.codes.hs) - g * ch.codes.p ∧
        sin * (65536 + ch.codes.hs) - g * ch.codes.p < 65536 * (h + 1)) ∧
      p.x = max (-32768) (min 32767 g) ∧ p.y = max (-32768) (min 32767 h)) ∧
    (0 ≤ p.r ∧ p.r ≤ 46340 ∧ p.r * p.r ≤ p.x * p.x + p.y * p.y ∧
      p.x * p.x + p.y * p.y < (p.r + 1) * (p.r + 1)) ∧
    (p.x = 0 → p.y = 0 → p.phi = ch.phiOld) ∧ (p.x ≠ 0 ∨ p.y ≠ 0 → p.phi = phaseOf p.x p.y) ∧ p.ovr = x.ovr

/-- R8: the phase is 4096 × θ / 2π rounded nearest, a half going upward, then taken modulo 4096, for the exact angle θ of the
point; the axes fall on 0, 1024, 2048 and 3072. That phase is the one of a PORT sample, taken of its x′ and y′. -/
def Obligations.PhaseIsTheNearestAngle : Prop :=
  (∀ x y : Int, x ≠ 0 ∨ y ≠ 0 →
    ∃ n : Int, phaseOf x y = n % 4096 ∧
      (n : ℝ) - 1 / 2 ≤ 4096 * Complex.arg ⟨(x : ℝ), (y : ℝ)⟩ / (2 * Real.pi) ∧
      4096 * Complex.arg ⟨(x : ℝ), (y : ℝ)⟩ / (2 * Real.pi) < (n : ℝ) + 1 / 2) ∧
  (∀ a : Int, 0 < a → phaseOf a 0 = 0 ∧ phaseOf 0 a = 1024 ∧ phaseOf (-a) 0 = 2048 ∧ phaseOf 0 (-a) = 3072) ∧
  ∀ (ch : Channel) (x : SampleIn), ch.source = .port → (ch.point x).x ≠ 0 ∨ (ch.point x).y ≠ 0 →
    (ch.point x).phi = phaseOf (ch.point x).x (ch.point x).y

/-- R5: a SYNTH sample has the synthetic phase, advanced by the step modulo 4096, the radius 16,384, and x′ and y′ the cosine
and the sine of that phase times 16,384, rounded nearest; OVR is deasserted. -/
def Obligations.SyntheticSampleFollowsItsTrack : Prop :=
  ∀ (ch : Channel) (x : SampleIn), ch.source = .synth →
    let p := ch.point x
    p.phi = (ch.synPhase + ch.step) % 4096 ∧ p.r = 16384 ∧ p.ovr = false ∧
    p.x = ⌊16384 * Real.cos (2 * Real.pi * (p.phi : ℝ) / 4096) + 1 / 2⌋ ∧
    p.y = ⌊16384 * Real.sin (2 * Real.pi * (p.phi : ℝ) / 4096) + 1 / 2⌋

/-- R4, R10 to R15: a bright sample of a TRACKING channel unwraps its phase and adds sense × Δ to Q; a |Δ| above the speed
limit loses the channel with OVERSPEED, a change past ±(2^39 − 1) with RANGE, counted with the LOST row; the velocity ring
takes the contribution and the history the entry. R36, R104: what a loss raises, and that one of MEASURE or PARTNER breaks the
pass (`State.Loses`). -/
def Obligations.BrightSampleUnwrapsTheCount : Prop :=
  ∀ (x : SampleIn) (s : State), s.mayCount x = true → (s.chan x.ch).state = .tracking →
    let ch := s.chan x.ch
    let p := ch.point x
    let sense : Int := if ch.sense = .plus then 1 else -1
    let delta := (p.phi - ch.phiOld + 2048) % 4096 - 2048
    let q' := ch.q + sense * delta
    ch.mon.rLow ≤ p.r →
    ∃ t, exec (.sampleCounted x) s = .next t ∧
      let c' := t.chan x.ch
      (c'.x = p.x ∧ c'.y = p.y ∧ c'.phi = p.phi ∧ c'.r = p.r ∧ c'.beam = true ∧ c'.phiOld = p.phi) ∧
      (if ch.mon.limit < |delta| then
          c'.q = ch.q ∧ c'.ring = ch.ring.drop 1 ++ [0] ∧ s.Loses t x.ch .overspeed
        else if 2 ^ 39 - 1 < |q'| then
          c'.q = (if q' < 0 then -(2 ^ 39 - 1) else 2 ^ 39 - 1) ∧ c'.ring = ch.ring.drop 1 ++ [0] ∧ s.Loses t x.ch .range
        else c'.q = q' ∧ c'.state = .tracking ∧ c'.loss = ch.loss ∧ c'.ring = ch.ring.drop 1 ++ [sense * delta]) ∧
      c'.history = (if ch.history.length < 33 then ch.history else ch.history.drop 1) ++
        [⟨x.k, c'.q, c'.state.name, c'.referenced⟩] ∧
      c'.next = x.k + 1

/-- R31, R32: the first dark sample of a TRACKING channel forms the coast anchor from the values of the last TRACKING sample
and extrapolates the count by V16 / 16, rounded downward; φ_old and the velocity ring keep their values. A change past the
count range loses the channel (R13). R32: a later sample of a coast that is neither a check sample nor past the coast limit
adds one to the length j, updates the strong run, and sets Q to Q_start + j × V_a / 16, rounded downward. R34, R36: a coast
times out on the first sample whose length exceeds 10 × T_short and which is not a check sample: the channel is LOST with
DROPOUT, Q as the last coast sample left it. R36, R104: what a loss raises, and that one of MEASURE or PARTNER breaks the
pass (`State.Loses`). -/
def Obligations.CoastFollowsItsAnchor : Prop :=
  (∀ (x : SampleIn) (s : State), s.mayCount x = true → (s.chan x.ch).state = .tracking →
     let ch := s.chan x.ch
     let p := ch.point x
     let q' := ch.q + ch.ring.sum / 16
     p.r < ch.mon.rLow →
     ∃ t, exec (.sampleCounted x) s = .next t ∧
       let c' := t.chan x.ch
       c'.beam = false ∧
       (if 2 ^ 39 - 1 < |q'| then
           c'.q = (if q' < 0 then -(2 ^ 39 - 1) else 2 ^ 39 - 1) ∧ c'.phiOld = p.phi ∧ s.Loses t x.ch .range
         else
           c'.q = q' ∧ c'.state = .coasting ⟨ch.q, ch.ring.sum, ch.phiOld, 1, 0⟩ ∧ c'.phiOld = ch.phiOld ∧
             c'.ring = ch.ring ∧ c'.loss = ch.loss)) ∧
  (∀ (x : SampleIn) (a : CoastAnchor) (s : State), s.mayCount x = true → (s.chan x.ch).state = .coasting a →
     let ch := s.chan x.ch
     let p := ch.point x
     let run := if ch.mon.rLow + ch.mon.rHyst ≤ p.r then a.strong + 1 else 0
     let q' := a.qStart + ((a.len + 1 : Nat) : Int) * a.va / 16
     ¬(ch.mon.rLow + ch.mon.rHyst ≤ p.r ∧ ch.mon.nr ≤ run) → ((a.len + 1 : Nat) : Int) ≤ 10 * ch.mon.tShort →
     ∃ t, exec (.sampleCounted x) s = .next t ∧
       let c' := t.chan x.ch
       if 2 ^ 39 - 1 < |q'| then
         c'.q = (if q' < 0 then -(2 ^ 39 - 1) else 2 ^ 39 - 1) ∧ c'.phiOld = p.phi ∧ s.Loses t x.ch .range
       else
         c'.q = q' ∧ c'.state = .coasting ⟨a.qStart, a.va, a.phiStart, a.len + 1, run⟩ ∧
           c'.phiOld = ch.phiOld ∧ c'.ring = ch.ring) ∧
  (∀ (x : SampleIn) (a : CoastAnchor) (s : State), s.mayCount x = true → (s.chan x.ch).state = .coasting a →
     let ch := s.chan x.ch
     let p := ch.point x
     ¬(ch.mon.rLow + ch.mon.rHyst ≤ p.r ∧ ch.mon.nr ≤ ((a.strong + 1 : Nat) : Int)) →
     10 * ch.mon.tShort < ((a.len + 1 : Nat) : Int) →
     ∃ t, exec (.coastTimeout x) s = .next t ∧
       let c' := t.chan x.ch
       c'.q = ch.q ∧ c'.phiOld = p.phi ∧ c'.ring = ch.ring.drop 1 ++ [0] ∧ c'.settleRun = 0 ∧ s.Loses t x.ch .dropout)

/-- R33, R35, R36: on a check sample the difference d of the measured from the predicted phase decides: within the tolerance
the coast bridges and Q takes Q_x + sense × d, and BRIDGE is raised when the dropout length reaches Nd; beyond it the channel
is LOST with SLIP, Q as the last coast sample left it. A bridged count past the count range loses the channel with RANGE (R13,
entry 22). R36, R104: what a loss raises, and that one of MEASURE or PARTNER breaks the pass (`State.Loses`). -/
def Obligations.BridgeCheckComparesPhases : Prop :=
  ∀ (x : SampleIn) (a : CoastAnchor) (s : State), s.mayCount x = true → (s.chan x.ch).state = .coasting a →
    let ch := s.chan x.ch
    let p := ch.point x
    let sense : Int := if ch.sense = .plus then 1 else -1
    let j : Int := (a.len + 1 : Nat)
    let qx := a.qStart + j * a.va / 16
    let d := (p.phi - (a.phiStart + sense * (qx - a.qStart)) % 4096 + 2048) % 4096 - 2048
    let q' := qx + sense * d
    ch.mon.rLow + ch.mon.rHyst ≤ p.r → ch.mon.nr ≤ ((a.strong + 1 : Nat) : Int) →
    ∃ t, exec (.bridgeCheck x) s = .next t ∧
      let c' := t.chan x.ch
      c'.phiOld = p.phi ∧
      (if ch.mon.tol < |d| then c'.q = ch.q ∧ c'.ring = ch.ring.drop 1 ++ [0] ∧ s.Loses t x.ch .slip
        else if 2 ^ 39 - 1 < |q'| then
          c'.q = (if q' < 0 then -(2 ^ 39 - 1) else 2 ^ 39 - 1) ∧ c'.ring = ch.ring.drop 1 ++ [0] ∧ s.Loses t x.ch .range
        else
          c'.q = q' ∧ c'.state = .tracking ∧ c'.ring = ch.ring ∧
            (ch.mon.nd ≤ j - ch.mon.nr → ∃ n, (t.source 4).raised = some ⟨n, .bridge x.ch d⟩))

/-- R29, R37, R10: any other sample in SETTLING or LOST leaves Q unchanged; a strong one adds to the settle run and any
other sets it to 0; φ_old takes φ and the velocity ring takes 0. R29, R37: the strong sample that brings the settle run to
T_settle × 10,000 enters TRACKING and is counted as a bright TRACKING sample; here with a Δ within the speed limit and a
count within its range. -/
def Obligations.SettlingFreezesTheCountUntilTracking : Prop :=
  (∀ (x : SampleIn) (s : State), s.mayCount x = true →
     (s.chan x.ch).state = .settling ∨ (s.chan x.ch).state = .lost →
     let ch := s.chan x.ch
     let p := ch.point x
     let run := if ch.mon.rLow + ch.mon.rHyst ≤ p.r then ch.settleRun + 1 else 0
     ¬(ch.mon.rLow + ch.mon.rHyst ≤ p.r ∧ ch.mon.tSettle * 10000 ≤ (run : Int)) →
     ∃ t, exec (.sampleCounted x) s = .next t ∧
       let c' := t.chan x.ch
       c'.state = ch.state ∧ c'.settleRun = run ∧ c'.q = ch.q ∧ c'.phiOld = p.phi ∧ c'.ring = ch.ring.drop 1 ++ [0]) ∧
  (∀ (x : SampleIn) (s : State), s.mayCount x = true →
     (s.chan x.ch).state = .settling ∨ (s.chan x.ch).state = .lost →
     let ch := s.chan x.ch
     let p := ch.point x
     let sense : Int := if ch.sense = .plus then 1 else -1
     let delta := (p.phi - ch.phiOld + 2048) % 4096 - 2048
     ch.mon.rLow + ch.mon.rHyst ≤ p.r → ch.mon.tSettle * 10000 ≤ ((ch.settleRun + 1 : Nat) : Int) →
     |delta| ≤ ch.mon.limit → |ch.q + sense * delta| ≤ 2 ^ 39 - 1 →
     ∃ t, exec (.settleComplete x) s = .next t ∧
       let c' := t.chan x.ch
       c'.state = .tracking ∧ c'.settleRun = 0 ∧ c'.q = ch.q + sense * delta ∧ c'.phiOld = p.phi ∧ c'.loss = ch.loss)

/-- R39, R40: the over sample that brings the over run to Nd sets the saturation flag, zeroes both runs and raises SATURATE;
the calm sample that brings the calm run to Nr clears the flag and raises nothing by it. -/
def Obligations.SaturationFlagIsSetAndCleared : Prop :=
  ∀ (x : SampleIn) (s : State), s.mayCount x = true →
    let ch := s.chan x.ch
    let p := ch.point x
    (ch.sat = false → (ch.mon.rHigh < p.r ∨ p.ovr = true) → ch.mon.nd ≤ ((ch.overRun + 1 : Nat) : Int) →
      ∃ t, exec (.saturationSet x) s = .next t ∧ (t.chan x.ch).sat = true ∧ (t.chan x.ch).overRun = 0 ∧
        (t.chan x.ch).calmRun = 0 ∧ ∃ n, (t.source 5).raised = some ⟨n, .saturate x.ch⟩) ∧
    (ch.sat = true → p.r ≤ ch.mon.rHigh - ch.mon.rHyst → p.ovr = false → ch.mon.nr ≤ ((ch.calmRun + 1 : Nat) : Int) →
      ∃ t, exec (.saturationClear x) s = .next t ∧ (t.chan x.ch).sat = false ∧ (t.chan x.ch).calmRun = 0 ∧
        (t.source 5).raised = (s.source 5).raised)

/-- R41: PROBE starts a run with the length exponent clamped to 8..20 and empty statistics, the last result staying
readable; it is refused with BUSY while a run is in progress, and with STATE on an OFF channel. R42: each sample of the run's
channel before the last raises the taken count, extends the extremes and adds its radius to the sum; a sample of another
channel leaves the unit as it is. R42, R43: the sample that
brings the taken count to 2^k ends the run COMPLETE: the result holds the extremes, with this sample's, and the radius sum
divided by 2^k rounded downward; PROBE_DONE is raised and the unit is free. -/
def Obligations.ProbeRunsToItsLength : Prop :=
  (∀ (b k : Byte) (c : Fin 4) (s : State), s.awaits (.probe b k) = true → b.toNat = c.val →
     (s.probe.run ≠ none → exec (.probe b k) s = .next (s.respond ⟨.busy, []⟩)) ∧
     (s.probe.run = none → (s.chan c).state = .off → exec (.probe b k) s = .next (s.respond ⟨.state, []⟩)) ∧
     (s.probe.run = none → (s.chan c).state ≠ .off →
       exec (.probe b k) s = .next { s with
         probe := ⟨some ⟨c, max 8 (min 20 k.toNat), 0, none, 0⟩, s.probe.result⟩
         port := { s.port with link := .holding ⟨if 8 ≤ k.toNat ∧ k.toNat ≤ 20 then .ok else .clamped, []⟩ } })) ∧
  (∀ (x : SampleIn) (run : ProbeRun) (s : State), s.mayCount x = true → s.probe.run = some run →
     let p := (s.chan x.ch).point x
     ∃ t, exec (.sampleCounted x) s = .next t ∧
       (run.ch ≠ x.ch → t.probe = s.probe) ∧
       (run.ch = x.ch → run.taken + 1 < 2 ^ run.k → t.probe = ⟨some ⟨run.ch, run.k, run.taken + 1,
         some (match run.ext with
           | none => ⟨p.x, p.x, p.y, p.y, p.r, p.r⟩
           | some e => ⟨min e.xMin p.x, max e.xMax p.x, min e.yMin p.y, max e.yMax p.y, min e.rMin p.r, max e.rMax p.r⟩),
         run.sumR + p.r⟩, s.probe.result⟩)) ∧
  (∀ (x : SampleIn) (run : ProbeRun) (e : Extremes) (s : State), s.mayCount x = true → s.probe.run = some run →
     run.ch = x.ch → run.taken + 1 = 2 ^ run.k → run.ext = some e →
     let p := (s.chan x.ch).point x
     ∃ t, exec (.probeComplete x) s = .next t ∧
       t.probe = ⟨none, some ⟨x.ch, run.k, false, 2 ^ run.k,
         some ⟨min e.xMin p.x, max e.xMax p.x, min e.yMin p.y, max e.yMax p.y, min e.rMin p.r, max e.rMax p.r⟩,
         some ((run.sumR + p.r) / 2 ^ run.k)⟩⟩ ∧
       ∃ n, (t.source 14).raised = some ⟨n, .probeDone x.ch false⟩)

/-- R3: a sample counted by one channel has no effect on another channel's counting: every other channel is unchanged, but
for the origin, the referenced flag and ν0 that a HOME strobe, then due on the aligned track, may set (R129, entry 8). Whether a
channel counts a sample is decided by that channel's own state and count alone, while the part is out of reset and the conversion
has been issued; any other sample changes nothing. That the first sample of a run is any one that the channel has not counted is
the model's choice (entry 7).
R21, R26, R48, R54, R97, R109, R147, R71, R90: a setting, the environment record, the place and the quotas of a record and the
scan cursor are changed by their own requests and by resets alone: no sample, update, strobe event, transaction, readout or
other request changes one. The events of the clock, the samples and the strobe path leave the port as it is, and only a
CONVERSION counts the conversions. -/
def Obligations.CommandsKeepWhatTheyDoNotOwn : Prop :=
  (∀ (x : SampleIn) (c : Fin 4) (s t : State), exec (.sampleCounted x) s = .next t → c ≠ x.ch →
    t.chan c = { s.chan c with
      origin := (t.chan c).origin, referenced := (t.chan c).referenced, nu0 := (t.chan c).nu0 } ∧
    (s.eng.home = false → t.chan c = s.chan c)) ∧
  (∀ (x : SampleIn) (s : State),
    (s.mayCount x = true ↔ s.rstnLow = false ∧ s.port.link ≠ .resetting ∧ x.k < s.conversions ∧ (s.chan x.ch).state ≠ .off ∧
      (if (s.chan x.ch).first = none then (s.chan x.ch).next ≤ x.k else x.k = (s.chan x.ch).next)) ∧
    (s.mayCount x = false → exec (.sampleCounted x) s = .next s)) ∧
  (∀ (i : Instr) (s t : State), keepsSettings i = true → exec i s = .next t →
    s.SameSettings t ∧ (i ≠ .conversion → t.conversions = s.conversions)) ∧
  ∀ (x : SampleIn) (level : Bool) (at' held : Nat) (s t : State),
    (exec (.sampleCounted x) s = .next t ∨ exec (.bridgeCheck x) s = .next t ∨ exec (.coastTimeout x) s = .next t ∨
      exec (.settleComplete x) s = .next t ∨ exec (.saturationSet x) s = .next t ∨ exec (.saturationClear x) s = .next t ∨
      exec (.probeComplete x) s = .next t ∨ exec .update s = .next t ∨ exec .envStaleCondition s = .next t ∨
      exec (.edgeAccept level at' held) s = .next t ∨ exec .latchComplete s = .next t ∨ exec .alignedSample s = .next t) →
    t.port = s.port

/-! ### The channels' requests (R7, R17 to R22, R26, R41) -/

/-- R21: the checks of SET_CHANNEL in their order, the first failing one deciding the status: a channel that is not OFF with
a field other than the step, then the role, then K, sense and source. R21, R22: on an OFF channel, an accepted SET_CHANNEL
sets every present field, the numeric ones clamped, and leaves the absent ones; the channel's M is the one of its λ and K;
the velocity ring of the traverse controller is emptied exactly where a role changes, or the λ, K or d of MEASURE or PARTNER
(R98); a new PARTNER breaks a running pass (R104); nothing else changes. R21 check 2: the synthetic step alone is taken in
every state of the channel. R172, R173: the status is CLAMPED exactly where a value was clamped. -/
def Obligations.SetChannelChecksAndSetsItsFields : Prop :=
  let beyond : Int → Int → Option Int → Bool := fun lo hi v => (v.map fun x => decide (x < lo ∨ hi < x)).getD false
  let lambdaOf : SetChannelReq → Option Int := fun q => q.lambda.map fun v => (v.toNat : Int)
  let datumOf : SetChannelReq → Option Int := fun q => q.datum.map fun v => (v.toNat : Int)
  let stepOf : SetChannelReq → Option Int := fun q => q.step.map BitVec.toInt
  let stepAfter : SetChannelReq → Int → Int := fun q held => ((stepOf q).map fun v => max (-2047) (min 2047 v)).getD held
  (∀ (q : SetChannelReq) (c : Fin 4) (s : State),
     s.awaits (.setChannel q) = true → q.unlisted = 0 → q.ch.toNat = c.val →
     ((s.chan c).state ≠ .off →
       (q.role ≠ none ∨ q.sense ≠ none ∨ q.passK ≠ none ∨ q.lambda ≠ none ∨ q.datum ≠ none ∨ q.source ≠ none) →
       exec (.setChannel q) s = .next (s.respond ⟨.state, []⟩)) ∧
     (q.role = none → q.sense = none → q.passK = none → q.lambda = none → q.datum = none → q.source = none →
       exec (.setChannel q) s = .next { s with
         chans := s.chans.set c { s.chan c with step := stepAfter q (s.chan c).step }
         port := { s.port with link := .holding ⟨if beyond (-2047) 2047 (stepOf q) then .clamped else .ok, []⟩ } }) ∧
     ((s.chan c).state = .off → ∀ b role, q.role = some b → roleOf b = some role → role ≠ (s.chan c).role →
       (c = 0 ∨ role = .measure ∨ (role = .partner ∧ s.partner ≠ none) ∨ (role = .tracker ∧ s.tracker ≠ none) ∨
         ((s.chan c).role = .tracker ∧ s.comp.source = .tracker)) →
       exec (.setChannel q) s = .next (s.respond ⟨.conflict, []⟩)) ∧
     ((s.chan c).state = .off → q.role = none →
       ((∃ b, q.passK = some b ∧ b.toNat ∉ [1, 2, 4, 8]) ∨ (∃ b, q.sense = some b ∧ b.toNat ∉ [1, 255]) ∨
         ∃ b, q.source = some b ∧ b.toNat ∉ [0, 1]) →
       exec (.setChannel q) s = .next (s.respond ⟨.range, []⟩))) ∧
  (∀ (q : SetChannelReq) (c : Fin 4) (role : Option Role) (sense : Option Sense) (passK : Option Int)
     (source : Option InSource) (s : State),
     s.awaits (.setChannel q) = true → q.unlisted = 0 → q.ch.toNat = c.val → (s.chan c).state = .off →
     named roleOf q.role = some role → named senseOf q.sense = some sense → named passKOf q.passK = some passK →
     named inSourceOf q.source = some source → s.roleConflict c (role.getD (s.chan c).role) = false →
     let ch := s.chan c
     let ch' : Channel := { ch with
       role := role.getD ch.role, sense := sense.getD ch.sense, passK := passK.getD ch.passK
       lambda := ((lambdaOf q).map fun v => max 400000000 (min 1000000000 v)).getD ch.lambda
       datum := ((datumOf q).map fun v => max 0 (min 4000000 v)).getD ch.datum
       source := source.getD ch.source, step := stepAfter q ch.step }
     let st : Status := if beyond 400000000 1000000000 (lambdaOf q) || beyond 0 4000000 (datumOf q) ||
       beyond (-2047) 2047 (stepOf q) then .clamped else .ok
     let moved : Prop := ch'.role ≠ ch.role ∨ ((ch'.role = .measure ∨ ch'.role = .partner) ∧
       (ch'.lambda ≠ ch.lambda ∨ ch'.passK ≠ ch.passK ∨ ch'.datum ≠ ch.datum))
     let newPartner : Prop := ch.role ≠ .partner ∧ ch'.role = .partner
     ∃ (factors : Vector Int 4) (ring : List Int),
       (∀ c' : Fin 4, factors[c'] = if c' = c ∧ (ch'.lambda ≠ ch.lambda ∨ ch'.passK ≠ ch.passK)
         then lengthFactor ch'.lambda ch'.passK s.comp.nuApplied else s.comp.factors[c']) ∧
       (moved → ring = []) ∧ (¬moved → ring = s.trav.ring) ∧
       let u : State := { s with
         chans := s.chans.set c ch', comp := { s.comp with factors := factors }, trav := { s.trav with ring := ring } }
       (¬(newPartner ∧ s.trav.ctl = .running) → exec (.setChannel q) s = .next (u.respond ⟨st, []⟩)) ∧
       (newPartner → s.trav.ctl = .running → exec (.setChannel q) s = .next ((u.endPass .broken false).respond ⟨st, []⟩) ∧
         (u.endPass .broken false).trav.ctl = .waiting ∧
         (u.endPass .broken false).trav.broken = min 65535 (s.trav.broken + 1)))

/-- R7: SET_QUADRATURE stores all five codes together, each clamped to its range, and completes with CLAMPED when one was
clamped; nothing else changes. R26: SET_MONITOR sets every present setting, clamped to its range, keeps the absent ones, and
changes nothing else. R172, R173: the status is CLAMPED exactly where a value was clamped. -/
def Obligations.QuadratureAndMonitorSettingsAreStored : Prop :=
  (∀ (q : SetQuadratureReq) (c : Fin 4) (s : State), s.awaits (.setQuadrature q) = true → q.ch.toNat = c.val →
     let inRange := -8192 ≤ q.offS.toInt ∧ q.offS.toInt ≤ 8191 ∧ -8192 ≤ q.offC.toInt ∧ q.offC.toInt ≤ 8191 ∧
       q.hs.toNat ≤ 32767 ∧ -16384 ≤ q.p.toInt ∧ q.p.toInt ≤ 16383
     exec (.setQuadrature q) s = .next { s with
       chans := s.chans.set c { s.chan c with codes :=
         ⟨max (-8192) (min 8191 q.offS.toInt), max (-8192) (min 8191 q.offC.toInt), q.g.toNat, min 32767 q.hs.toNat,
           max (-16384) (min 16383 q.p.toInt)⟩ }
       port := { s.port with link := .holding ⟨if inRange then .ok else .clamped, []⟩ } }) ∧
  (∀ (q : SetMonitorReq) (c : Fin 4) (s : State), s.awaits (.setMonitor q) = true → q.unlisted = 0 → q.ch.toNat = c.val →
     let put16 : Int → Int → Int → Option (BitVec 16) → Int := fun lo hi held v =>
       (v.map fun b => max lo (min hi (b.toNat : Int))).getD held
     let put8 : Int → Int → Int → Option Byte → Int := fun lo hi held v =>
       (v.map fun b => max lo (min hi (b.toNat : Int))).getD held
     let m := (s.chan c).mon
     let m' : MonSet := ⟨put16 0 46340 m.rLow q.rLow, put16 0 8191 m.rHyst q.rHyst, put16 0 46340 m.rHigh q.rHigh,
       put8 1 64 m.nd q.nd, put8 1 64 m.nr q.nr, put16 1 2000 m.tShort q.tShort, put8 1 255 m.tSettle q.tSettle,
       put16 64 1024 m.tol q.tol, put16 256 1536 m.limit q.limit⟩
     let beyond16 : Int → Int → Option (BitVec 16) → Bool := fun lo hi v =>
       (v.map fun b => decide ((b.toNat : Int) < lo ∨ hi < (b.toNat : Int))).getD false
     let beyond8 : Int → Int → Option Byte → Bool := fun lo hi v =>
       (v.map fun b => decide ((b.toNat : Int) < lo ∨ hi < (b.toNat : Int))).getD false
     let clamps : Bool := beyond16 0 46340 q.rLow || beyond16 0 8191 q.rHyst || beyond16 0 46340 q.rHigh ||
       beyond8 1 64 q.nd || beyond8 1 64 q.nr || beyond16 1 2000 q.tShort || beyond8 1 255 q.tSettle ||
       beyond16 64 1024 q.tol || beyond16 256 1536 q.limit
     exec (.setMonitor q) s = .next { s with
       chans := s.chans.set c { s.chan c with mon := m' }
       port := { s.port with link := .holding ⟨if clamps then .clamped else .ok, []⟩ } })

/-- R18, R28: CHANNEL_ON of an OFF channel starts it from zero in SETTLING, keeping its configuration, codes, settings and ν0;
one of MEASURE or PARTNER empties the velocity ring of the traverse controller (R98); a channel not OFF is refused with
STATE. That `onAt` takes how far MEASURE has counted is the model's bookkeeping (entry 9). -/
def Obligations.ChannelOnStartsFromZero : Prop :=
  ∀ (b : Byte) (c : Fin 4) (s : State), s.awaits (.channelOn b) = true → b.toNat = c.val →
    ((s.chan c).state = .off →
      exec (.channelOn b) s = .next { s with
        chans := s.chans.set c { s.chan c with
          q := 0, origin := 0, referenced := false, history := [], ring := List.replicate 16 0, phiOld := 0
          synPhase := 0, state := .settling, loss := .none, beam := false, settleRun := 0, sat := false, overRun := 0
          calmRun := 0, first := none, onAt := (s.chan 0).next }
        trav := { s.trav with ring :=
          if (s.chan c).role = .measure ∨ (s.chan c).role = .partner then [] else s.trav.ring }
        port := { s.port with link := .holding ⟨.ok, []⟩ } }) ∧
    ((s.chan c).state ≠ .off → exec (.channelOn b) s = .next (s.respond ⟨.state, []⟩))

/-- R19, R28, R44, R58, R112: CHANNEL_OFF enters OFF and clears referenced, keeping Q, O, φ, r, x′, y′, the velocity ring and
the history; it aborts a probe run on the channel; of the TRACKER it discards the anchor, of MEASURE it empties the latch list
and discards the open pulse; MEASURE or PARTNER is refused with STATE while a pass is RUNNING. -/
def Obligations.ChannelOffStopsTheCount : Prop :=
  ∀ (b : Byte) (c : Fin 4) (s : State), s.awaits (.channelOff b) = true → b.toNat = c.val →
    (((s.chan c).role = .measure ∨ (s.chan c).role = .partner) → s.trav.ctl = .running →
      exec (.channelOff b) s = .next (s.respond ⟨.state, []⟩)) ∧
    (¬(((s.chan c).role = .measure ∨ (s.chan c).role = .partner) ∧ s.trav.ctl = .running) →
      ((s.chan c).state = .off → exec (.channelOff b) s = .next (s.respond ⟨.ok, []⟩)) ∧
      ((s.chan c).state ≠ .off →
        ∃ t, exec (.channelOff b) s = .next t ∧ t.port.link = .holding ⟨.ok, []⟩ ∧
          t.chan c = { s.chan c with state := .off, referenced := false, settleRun := 0, overRun := 0, calmRun := 0 } ∧
          (∀ c' : Fin 4, c' ≠ c → t.chan c' = s.chan c') ∧
          ((s.chan c).role = .tracker → t.comp.anchor = none) ∧
          (c = 0 → t.eng.latches = [] ∧ t.eng.pulse = none) ∧
          (∀ run, s.probe.run = some run → run.ch = c →
            t.probe = ⟨none, some ⟨c, run.k, true, run.taken, run.ext, none⟩⟩ ∧
              ∃ n, (t.source 14).raised = some ⟨n, .probeDone c true⟩) ∧
          ((∀ run, s.probe.run = some run → run.ch ≠ c) → t.probe = s.probe ∧ t.att = s.att)))

/-- R17, R16: an accepted PRESET sets O = 8 × Q − value, so that the eighth-count at the latest sample is the value, sets
referenced, and records the index applied as ν0; the refusals come in the order STATE (not TRACKING), STATE (MEASURE or
PARTNER in a running pass), RANGE. The velocity ring is emptied where O or ν0 of MEASURE or PARTNER changes (R98); that a
PRESET which sets the same O and the same ν0 leaves the ring is the model's reading (entry 17). -/
def Obligations.PresetSetsTheOrigin : Prop :=
  ∀ (b : Byte) (v : BitVec 48) (c : Fin 4) (s : State), s.awaits (.preset b v) = true → b.toNat = c.val →
    let ch := s.chan c
    let o := 8 * ch.q - v.toInt
    let inPosition := ch.role = .measure ∨ ch.role = .partner
    (ch.state ≠ .tracking → exec (.preset b v) s = .next (s.respond ⟨.state, []⟩)) ∧
    (ch.state = .tracking → inPosition → s.trav.ctl = .running →
      exec (.preset b v) s = .next (s.respond ⟨.state, []⟩)) ∧
    (ch.state = .tracking → ¬(inPosition ∧ s.trav.ctl = .running) →
      (8 * (2 ^ 39 - 1) < |v.toInt| ∨ 8 * (2 ^ 39 - 1) < |o|) →
      exec (.preset b v) s = .next (s.respond ⟨.range, []⟩)) ∧
    (ch.state = .tracking → ¬(inPosition ∧ s.trav.ctl = .running) →
      |v.toInt| ≤ 8 * (2 ^ 39 - 1) → |o| ≤ 8 * (2 ^ 39 - 1) →
      exec (.preset b v) s = .next { s with
        chans := s.chans.set c { ch with origin := o, referenced := true, nu0 := s.comp.nuApplied }
        trav := { s.trav with ring :=
          if inPosition ∧ (o ≠ ch.origin ∨ s.comp.nuApplied ≠ ch.nu0) then [] else s.trav.ring }
        port := { s.port with link := .holding ⟨.ok, []⟩ } } ∧
      eighth ch.q o = v.toInt)

/-! ### Length compensation (chapter 3) -/

/-- R46, R49 to R53, R57: what an update makes of the age, the freshness, the index target, the scale temperature target and
the environment-stale condition. A target that its source cannot form is held; ENV_STALE is raised at the update where the
condition begins. That ENV_STALE_CONDITION is the whole of that update is the model's reading (entry 6). -/
def Obligations.UpdateFormsTheTargets : Prop :=
  ∀ s : State, s.rstnLow = false → s.port.link ≠ .resetting →
    let c := s.comp
    let age := min (2 ^ 32 - 1) (c.age + 1)
    let fresh : Prop := c.env.p ≠ none ∧ c.env.tAir ≠ none ∧ (age : Int) ≤ 1000 * c.ageLimit
    let bound : Int → Int := fun v => max 0 (min 400000 v)
    let begins : Prop := c.source = .environment ∧ ¬fresh ∧ c.stale = false
    ∃ t, exec .update s = .next t ∧
      (t.comp.age = age ∧ (t.comp.fresh = true ↔ fresh)) ∧
      (c.source = .fixed → t.comp.nuTarget = bound c.nuFixed) ∧
      (∀ p tAir, c.source = .environment → fresh → c.env.p = some p → c.env.tAir = some tAir → 0 < tAir + 273150 →
        t.comp.nuTarget =
          bound (⌊((c.a * p : Int) : ℚ) / ((tAir + 273150 : Int) : ℚ)⌋ - ⌊((c.b * c.env.e.getD 0 : Int) : ℚ) / 1000⌋)) ∧
      (c.source = .environment → ¬fresh → t.comp.nuTarget = c.nuTarget) ∧
      (∀ a f, c.source = .tracker → c.anchor = some a → s.tracker = some f → 0 < (s.chan f).passK → 0 < c.lt →
        t.comp.nuTarget = bound (a.nu + ⌊(((s.chan f).q - a.q) * (s.chan f).lambda : ℚ) /
          (4096 * (s.chan f).passK * c.lt) + 1 / 2⌋)) ∧
      (c.source = .tracker → c.anchor = none → t.comp.nuTarget = c.nuTarget) ∧
      (t.comp.tTarget = match c.env.tScale with
        | some v => some v
        | none => c.tTarget) ∧
      (t.comp.stale = true ↔ c.source = .environment ∧ ¬fresh) ∧
      (begins →
        exec .envStaleCondition s = .next t ∧
        ∃ n, (t.source 6).raised =
          some ⟨n, .envStale (if c.env.p ≠ none ∧ c.env.tAir ≠ none then some age else none)⟩) ∧
      (¬begins → t.att = s.att ∧ t.table = s.table ∧ t.eng = s.eng) ∧
      t.chans = s.chans ∧ t.probe = s.probe ∧ t.tracks = s.tracks ∧ t.port = s.port ∧ t.conversions = s.conversions

/-- R59 to R61, R63, R98: how an update moves the applied index and the applied scale temperature toward their targets by the
policy in force, the length factors with them, and the velocity ring of the traverse controller when either changes; here
where ENV_STALE's action breaks no running pass. -/
def Obligations.UpdateMovesTheAppliedValues : Prop :=
  ∀ s : State, s.rstnLow = false → s.port.link ≠ .resetting →
    (s.source 6).action = .none ∨ s.trav.ctl ≠ .running →
    let c := s.comp
    let holds : Prop := c.policy = .passHold ∧ s.trav.ctl = .running
    let toward : Int → Int → Int → Int := fun limit target applied =>
      if c.policy = .slew then
        if |target - applied| ≤ limit then target
        else if applied < target then applied + limit else applied - limit
      else target
    ∃ t, exec .update s = .next t ∧
      (holds → t.comp.nuApplied = c.nuApplied ∧ t.comp.tApplied = c.tApplied) ∧
      (¬holds →
        t.comp.nuApplied = toward c.sNu t.comp.nuTarget c.nuApplied ∧
        (t.comp.tTarget = none → t.comp.tApplied = c.tApplied) ∧
        (∀ v, t.comp.tTarget = some v → c.tApplied = none → t.comp.tApplied = some v) ∧
        ∀ v a, t.comp.tTarget = some v → c.tApplied = some a → t.comp.tApplied = some (toward c.sT v a)) ∧
      (if t.comp.nuApplied = c.nuApplied then t.comp.factors = c.factors
        else ∀ f : Fin 4, t.comp.factors[f] = lengthFactor (s.chan f).lambda (s.chan f).passK t.comp.nuApplied) ∧
      (t.trav = { s.trav with ring :=
        if t.comp.nuApplied = c.nuApplied ∧ t.comp.tApplied = c.tApplied then s.trav.ring else [] })

/-- R63, R65 to R69: the length factor and the stages 2 to 6 of the position path, each division rounded as its rule says. R64:
the real-time track takes the sample that MEASURE counts, where no PARTNER is assigned; with one, the newest sample of MEASURE's
present run that both have counted, and no sample of an earlier run; a channel contributes to a sample the Q of its history
entry, or the Q it holds where it holds no entry, and a PARTNER that is OFF its frozen Q. R113: the aligned track is due to reach sample j once MEASURE, and PARTNER when assigned and not
OFF, have counted sample j + L, with L = floor(D/8) + 2; the samples below `onAt` are not waited for (R64, entry 9), and what
was due stays due (entry 32). -/
def Obligations.PositionFollowsItsStages : Prop :=
  (∀ lambda passK nu : Int, 0 < passK → 0 < 1000000000 + nu →
    lengthFactor lambda passK nu = ⌊(lambda * 131072 * 10 ^ 6 : ℚ) / (passK * (10 ^ 9 + nu)) + 1 / 2⌋) ∧
  (∀ (s : State) (eM eP : Int),
    let c := s.comp
    let length : Fin 4 → Int → Int := fun f e =>
      ⌊((e * c.factors[f] : Int) : ℚ) / 2 ^ 32 + 1 / 2⌋ -
        ((s.chan f).datum * (c.nuApplied - (s.chan f).nu0)).tdiv 1000
    let p := match s.partner with
      | none => length 0 eM
      | some f => length 0 eM + ⌊(((length f eP - length 0 eM) * c.rb : Int) : ℚ) / 65536 + 1 / 2⌋
    let p20 := match c.tApplied with
      | none => p
      | some t => p - ⌊((p * c.alpha * (t - 20000) : Int) : ℚ) / 10 ^ 12 + 1 / 2⌋
    s.position eM eP = max (-(2 ^ 47 - 1)) (min (2 ^ 47 - 1) p20)) ∧
  -- R64: the real-time track takes the sample that MEASURE counts, when no PARTNER is assigned
  (∀ (x : SampleIn) (s : State), s.mayCount x = true → x.ch = 0 → (s.chan 0).role = .measure → s.partner = none →
    (s.chan 0).Sound → s.tracks.rtCount ≤ x.k →
    ∃ t, exec (.sampleCounted x) s = .next t ∧ t.tracks.rtCount = x.k + 1 ∧
      t.tracks.rt = some (t.position (8 * (t.chan 0).q - (t.chan 0).origin) 0)) ∧
  -- R64: with a PARTNER assigned, it takes the newest sample of MEASURE's present run that both have counted, if any is new
  (∀ (x : SampleIn) (s : State) (f : Fin 4), s.mayCount x = true → (s.chan 0).role = .measure → s.partner = some f →
    x.ch = 0 ∨ x.ch = f →
    ∃ t, exec (.sampleCounted x) s = .next t ∧
      let both : Nat := if (t.chan f).state = .off then (t.chan 0).next
        else min (t.chan 0).next (max (t.chan f).onAt (t.chan f).next)
      let forms : Prop := (t.chan 0).state ≠ .off ∧ s.tracks.rtCount < both ∧ ∃ k, (t.chan 0).first = some k ∧ k < both
      (forms → t.tracks.rtCount = both ∧ t.tracks.rt = some (t.trackPosition (both - 1))) ∧
      (¬forms → t.tracks.rtCount = s.tracks.rtCount ∧ t.tracks.rt = s.tracks.rt)) ∧
  (∀ (ch : Channel) (k : Nat),
    ch.eighthAt k = 8 * (if ch.state = .off then ch.q else ((ch.entry k).map (·.q)).getD ch.q) - ch.origin) ∧
  (∀ (s : State) (k : Nat) (f : Fin 4), s.partner = some f → (s.chan f).state = .off →
    s.trackPosition k = s.position ((s.chan 0).eighthAt k) (8 * (s.chan f).q - (s.chan f).origin)) ∧
  ∀ (x : SampleIn) (s : State), s.mayCount x = true → (s.chan 0).role = .measure →
    let lag : Nat := (s.eng.delay / 8).toNat + 2
    ∃ t, exec (.sampleCounted x) s = .next t ∧
      (x.ch = 0 → s.partner = none → ∀ j, s.tracks.alignedLimit ≤ j → (j < t.tracks.alignedLimit ↔ j + lag < (t.chan 0).next)) ∧
      ∀ f, s.partner = some f → x.ch = 0 ∨ x.ch = f → (t.chan 0).state ≠ .off → ∀ j, s.tracks.alignedLimit ≤ j →
        (j < t.tracks.alignedLimit ↔ j + lag < (t.chan 0).next ∧
          ((t.chan f).state = .off ∨ j + lag < max (t.chan f).onAt (t.chan f).next))

/-- R48, R54, R55, R58, R98: an accepted SET_COMPENSATION sets every present setting, clamped, keeps the absent ones, discards
the anchor on a change of Lt and empties the velocity ring on a change of Rb or α; a source or a policy that names nothing is
refused with RANGE, and TRACKER without its channel with CONFLICT. PUT_ENVIRONMENT stores every present field, clamped,
restarts the age with a pressure or an air temperature, and raises ENV_CLAMP when it clamps. R172, R173: the status is CLAMPED
exactly where a value was clamped. That an Lt of 0 or below takes 0 and one of 1 to 999 takes 1,000 is the model's reading
(entry 18). -/
def Obligations.CompensationTakesItsSettings : Prop :=
  ∀ s : State,
    let c := s.comp
    let put32 : Int → Int → Int → Option (BitVec 32) → Int := fun lo hi held v =>
      (v.map fun b => max lo (min hi b.toInt)).getD held
    let put16 : Int → Int → Int → Option (BitVec 16) → Int := fun lo hi held v =>
      (v.map fun b => max lo (min hi (b.toNat : Int))).getD held
    let beyond32 : Int → Int → Option (BitVec 32) → Bool := fun lo hi v =>
      (v.map fun b => decide (b.toInt < lo ∨ hi < b.toInt)).getD false
    let beyond16 : Int → Int → Option (BitVec 16) → Bool := fun lo hi v =>
      (v.map fun b => decide ((b.toNat : Int) < lo ∨ hi < (b.toNat : Int))).getD false
    (∀ q : SetCompensationReq, s.awaits (.setCompensation q) = true → q.unlisted = 0 →
      (named indexSourceOf q.source = none ∨ named policyOf q.policy = none →
        exec (.setCompensation q) s = .next (s.respond ⟨.range, []⟩)) ∧
      ∀ source policy, named indexSourceOf q.source = some source → named policyOf q.policy = some policy →
        (source = some .tracker → s.tracker = none →
          exec (.setCompensation q) s = .next (s.respond ⟨.conflict, []⟩)) ∧
        ((source = some .tracker → s.tracker ≠ none) →
          let lt := (q.lt.map fun b =>
            if b.toInt ≤ 0 then 0 else max 1000 (min 2000000 b.toInt)).getD c.lt
          let rb := put32 (-262144) 262143 c.rb q.rb
          let alpha := put16 0 30000 c.alpha q.alpha
          let clamps : Bool := beyond32 0 400000 q.nuFixed || beyond32 600000 1000000 q.a || beyond16 0 1000 q.b ||
            beyond16 1 600 q.ageLimit ||
            (q.lt.map fun b => decide (b.toInt < 0 ∨ (0 < b.toInt ∧ b.toInt < 1000) ∨ 2000000 < b.toInt)).getD false ||
            beyond16 1 1000 q.sNu || beyond16 1 1000 q.sT || beyond32 (-262144) 262143 q.rb || beyond16 0 30000 q.alpha
          exec (.setCompensation q) s = .next { s with
            comp := { c with
              source := source.getD c.source, nuFixed := put32 0 400000 c.nuFixed q.nuFixed
              a := put32 600000 1000000 c.a q.a, b := put16 0 1000 c.b q.b
              ageLimit := put16 1 600 c.ageLimit q.ageLimit, lt := lt, policy := policy.getD c.policy
              sNu := put16 1 1000 c.sNu q.sNu, sT := put16 1 1000 c.sT q.sT, rb := rb, alpha := alpha
              anchor := if lt = c.lt then c.anchor else none }
            trav := { s.trav with ring := if rb = c.rb ∧ alpha = c.alpha then s.trav.ring else [] }
            port := { s.port with link := .holding ⟨if clamps then .clamped else .ok, []⟩ } })) ∧
    (∀ q : PutEnvironmentReq, s.awaits (.putEnvironment q) = true → q.unlisted = 0 →
      let beyond : Int → Int → Option (BitVec 32) → Bool := fun lo hi v =>
        (v.map fun b => decide (b.toInt < lo ∨ hi < b.toInt)).getD false
      let store : Int → Int → Option Int → Option (BitVec 32) → Option Int := fun lo hi held v =>
        (v.map fun b => some (max lo (min hi b.toInt))).getD held
      let clampedAir := beyond (-10000) 50000 q.tAir
      let clampedScale := beyond (-10000) 50000 q.tScale
      let clampedP := beyond 50000 120000 q.p
      let clampedE := beyond 0 10000 q.e
      let s' : State := { s with comp := { c with
        env := ⟨store (-10000) 50000 c.env.tAir q.tAir, store (-10000) 50000 c.env.tScale q.tScale,
          store 50000 120000 c.env.p q.p, store 0 10000 c.env.e q.e⟩
        age := if q.p = none ∧ q.tAir = none then c.age else 0 } }
      exec (.putEnvironment q) s = .next (
        if clampedAir = false ∧ clampedScale = false ∧ clampedP = false ∧ clampedE = false then s'.respond ⟨.ok, []⟩
        else (s'.raise (.envClamp clampedAir clampedScale clampedP clampedE)).respond ⟨.clamped, []⟩))

/-- R56: the checks of ANCHOR_TRACKER in their order, and the anchor it sets: the index carried, or the one that the
environment record gives with the constants of the latest update (entry 14), with the TRACKER channel's Q. -/
def Obligations.AnchorTiesTheTrackerCount : Prop :=
  ∀ (nu : Option (BitVec 32)) (s : State), s.awaits (.anchorTracker nu 0) = true →
    let refused : Status → Prop := fun st => exec (.anchorTracker nu 0) s = .next (s.respond ⟨st, []⟩)
    let anchored : Int → Fin 4 → Prop := fun v f =>
      exec (.anchorTracker nu 0) s = .next { s with
        comp := { s.comp with anchor := some ⟨v, (s.chan f).q⟩ }
        port := { s.port with link := .holding ⟨.ok, []⟩ } }
    (s.tracker = none → refused .state) ∧
    (∀ f, s.tracker = some f →
      ((s.chan f).state ≠ .tracking → refused .state) ∧
      ((s.chan f).state = .tracking →
        (s.comp.lt = 0 → refused .range) ∧
        (s.comp.lt ≠ 0 →
          (nu = none → s.comp.fresh = false → refused .state) ∧
          (∀ p tAir, nu = none → s.comp.fresh = true → s.comp.env.p = some p → s.comp.env.tAir = some tAir →
            0 < tAir + 273150 →
            anchored (max 0 (min 400000 (⌊((s.comp.forceA * p : Int) : ℚ) / ((tAir + 273150 : Int) : ℚ)⌋ -
              ⌊((s.comp.forceB * s.comp.env.e.getD 0 : Int) : ℚ) / 1000⌋))) f) ∧
          (∀ v, nu = some v → (v.toInt < 0 ∨ 400000 < v.toInt) → refused .range) ∧
          (∀ v, nu = some v → 0 ≤ v.toInt → v.toInt ≤ 400000 → anchored v.toInt f))))

/-! ### The line table (chapters 4 and 7) -/

/-- R80, R81, R71, R72: the checks of INSERT_RECORD in their order, and the new record, empty, in its place in the order of
N. -/
def Obligations.InsertKeepsTheOrder : Prop :=
  ∀ (q : InsertReq) (s : State), s.awaits (.insertRecord q) = true →
    let n := q.n.toInt
    let w := q.w.toInt
    let recs := s.table.records
    let refused : Status → Prop := fun st => exec (.insertRecord q) s = .next (s.respond ⟨st, []⟩)
    let inRange : Prop := -(2 ^ 46) ≤ n ∧ n ≤ 2 ^ 46 ∧ 1000 ≤ w ∧ w ≤ 50000000 ∧ (q.state = 0 ∨ q.state = 1)
    let held : Prop := ∃ r ∈ recs, r.label = q.label.toNat
    let clash : Prop := ∃ r ∈ recs, n - w ≤ r.n + r.w ∧ r.n - r.w ≤ n + w
    (¬inRange → refused .range) ∧
    (inRange → 2048 ≤ recs.length → refused .full) ∧
    (inRange → recs.length < 2048 → held → refused .exists) ∧
    (inRange → recs.length < 2048 → ¬held → clash → refused .overlap) ∧
    (inRange → recs.length < 2048 → ¬held → ¬clash →
      ∃ before after, recs = before ++ after ∧
        (s.table.Ordered → (∀ r ∈ before, r.n + r.w < n - w) ∧ ∀ r ∈ after, n + w < r.n - r.w) ∧
        exec (.insertRecord q) s = .next { s with
          table := { s.table with records := before ++
            { label := q.label.toNat, n := n, w := w, quotaF := q.quotaF.toNat, quotaB := q.quotaB.toNat
              state := if q.state = 0 then .armed else .paused
              accF := ⟨0, 0, 0, none⟩, accB := ⟨0, 0, 0, none⟩, last := none, misses := 0
              rejects := ⟨0, 0, 0, 0, 0, 0⟩ } :: after }
          port := { s.port with link := .holding ⟨.ok, []⟩ } })

/-- R82, R83, R75: the checks of CHANGE_RECORD in their order, and the record changed: every present field set, the state
re-evaluated, its place in the order of N taken, REC_COMPLETE raised at an entry into COMPLETE, and every other record as it
was. -/
def Obligations.ChangeRecordMovesOneRecord : Prop :=
  ∀ (q : ChangeReq) (s : State), s.awaits (.changeRecord q) = true → q.unlisted = 0 →
    let refused : Status → Prop := fun st => exec (.changeRecord q) s = .next (s.respond ⟨st, []⟩)
    (s.table.find q.label.toNat = none → refused .absent) ∧
    (∀ r, s.table.find q.label.toNat = some r →
      let n := (q.n.map BitVec.toInt).getD r.n
      let w := (q.w.map BitVec.toInt).getD r.w
      let quotaF := (q.quotaF.map BitVec.toNat).getD r.quotaF
      let quotaB := (q.quotaB.map BitVec.toNat).getD r.quotaB
      let place : Prop := (∃ v, q.n = some v ∧ (v.toInt < -(2 ^ 46) ∨ 2 ^ 46 < v.toInt)) ∨
        ∃ v, q.w = some v ∧ (v.toInt < 1000 ∨ 50000000 < v.toInt)
      let below : Prop := (∃ v, q.quotaF = some v ∧ v ≠ 0 ∧ v.toNat < r.accF.n) ∨
        ∃ v, q.quotaB = some v ∧ v ≠ 0 ∧ v.toNat < r.accB.n
      let finished : Prop := (quotaF ≠ 0 ∨ quotaB ≠ 0) ∧ (quotaF = 0 ∨ r.accF.n = quotaF) ∧ (quotaB = 0 ∨ r.accB.n = quotaB)
      let ended : Dir → Prop := fun d => finished ∨ (d = .fwd ∧ quotaF ≠ 0 ∧ r.accF.n = quotaF) ∨
        (d = .bwd ∧ quotaB ≠ 0 ∧ r.accB.n = quotaB)
      let occupied : Prop := ∃ o, s.eng.occ = some o ∧ o.label = r.label ∧ (q.n ≠ none ∨ q.w ≠ none ∨ ended o.dir)
      let clash : Prop := ∃ x ∈ s.table.records, x.label ≠ r.label ∧ n - w ≤ x.n + x.w ∧ x.n - x.w ≤ n + w
      (place ∨ below → refused .range) ∧
      (¬(place ∨ below) → occupied → refused .occupied) ∧
      (¬(place ∨ below) → ¬occupied → clash → refused .overlap) ∧
      (¬(place ∨ below) → ¬occupied → ¬clash →
        ∃ before after st, before ++ after = s.table.records.filter (fun x => decide (x.label ≠ r.label)) ∧
          (s.table.Ordered → (∀ x ∈ before, x.n + x.w < n - w) ∧ ∀ x ∈ after, n + w < x.n - x.w) ∧
          (r.state = .armed ∨ r.state = .complete → (finished → st = .complete) ∧ (¬finished → st = .armed)) ∧
          (r.state = .paused ∨ r.state = .suspect → st = r.state) ∧
          let s' : State := { s with table := { s.table with records := before ++
            { r with n := n, w := w, quotaF := quotaF, quotaB := quotaB, state := st } :: after } }
          exec (.changeRecord q) s = .next
            ((if r.state ≠ .complete ∧ st = .complete then s'.raise (.recComplete r.label) else s').respond ⟨.ok, []⟩)))

/-- R84 to R87, R75: RETIRE_RECORD removes the record, and its occupancy with it; SET_RECORD_STATE takes ARMED or PAUSED by the
state held, and not on the occupied record; CLEAR_RESULTS clears one record's results, or all of them and the stray count.
A label not held is refused with ABSENT. -/
def Obligations.RecordEditsAddressOneRecord : Prop :=
  ∀ (l : BitVec 16) (s : State),
    let recs := s.table.records
    let done : State → State := fun s => s.respond ⟨.ok, []⟩
    let cleared : LineRec → LineRec := fun r => { r with
      accF := ⟨0, 0, 0, none⟩, accB := ⟨0, 0, 0, none⟩, last := none, misses := 0, rejects := ⟨0, 0, 0, 0, 0, 0⟩
      state := if r.state = .complete ∨ r.state = .suspect then .armed else r.state }
    let change : (LineRec → LineRec) → State := fun f =>
      { s with table := { s.table with records := recs.map fun r => if r.label = l.toNat then f r else r } }
    (s.table.find l.toNat = none →
      (s.awaits (.retireRecord l) = true → exec (.retireRecord l) s = .next (s.respond ⟨.absent, []⟩)) ∧
      (∀ st, s.awaits (.setRecordState l st) = true → exec (.setRecordState l st) s = .next (s.respond ⟨.absent, []⟩)) ∧
      (s.awaits (.clearResults l 0) = true → exec (.clearResults l 0) s = .next (s.respond ⟨.absent, []⟩))) ∧
    (∀ r, s.table.find l.toNat = some r →
      let occupied : Prop := ∃ o, s.eng.occ = some o ∧ o.label = l.toNat
      (s.awaits (.retireRecord l) = true →
        (occupied → exec (.retireRecord l) s = .next (done { s with
          table := { s.table with records := recs.filter fun x => decide (x.label ≠ l.toNat) }
          eng := { s.eng with occ := none } })) ∧
        (¬occupied → exec (.retireRecord l) s = .next (done { s with
          table := { s.table with records := recs.filter fun x => decide (x.label ≠ l.toNat) } }))) ∧
      (∀ st : Byte, s.awaits (.setRecordState l st) = true →
        (1 < st.toNat → exec (.setRecordState l st) s = .next (s.respond ⟨.range, []⟩)) ∧
        (st.toNat ≤ 1 → occupied → exec (.setRecordState l st) s = .next (s.respond ⟨.occupied, []⟩)) ∧
        (¬occupied → st = 1 →
          exec (.setRecordState l st) s = .next (done (change fun r => { r with state := .paused }))) ∧
        (¬occupied → st = 0 →
          (r.state = .armed ∨ r.state = .complete →
            ∃ t, exec (.setRecordState l st) s = .next t ∧ (s.table.Ordered → t = done s)) ∧
          (s.table.Ordered → r.state = .paused ∨ r.state = .suspect →
            let s' := change fun r => { r with
              misses := if r.state = .suspect then 0 else r.misses
              state := if r.finished then .complete else .armed }
            exec (.setRecordState l st) s = .next
              (done (if r.finished then s'.raise (.recComplete l.toNat) else s'))))) ∧
      (s.awaits (.clearResults l 0) = true → exec (.clearResults l 0) s = .next (done (change cleared)))) ∧
    (s.awaits (.clearResultsAll 0) = true →
      exec (.clearResultsAll 0) s = .next (done { s with
        table := { s.table with records := recs.map cleared }
        eng := { s.eng with strays := 0 } }))

/-- R89 to R91: FIND_POSITION returns the record whose window contains the position, or else the nearest, the lower of two
equally near; SEEK sets the cursor before a position; READ_NEXT returns the record of least N beyond the cursor whose state
is in the filter and moves the cursor past it, or the end marker. -/
def Obligations.LookupsFollowTheOrder : Prop :=
  ∀ s : State, s.table.Ordered →
    let recs := s.table.records
    (∀ p : BitVec 48, s.awaits (.findPosition p) = true →
      let x := p.toInt
      (2 ^ 47 - 1 < |x| → exec (.findPosition p) s = .next (s.respond ⟨.range, []⟩)) ∧
      (|x| ≤ 2 ^ 47 - 1 →
        (recs = [] → exec (.findPosition p) s = .next (s.respond ⟨.absent, []⟩)) ∧
        (∀ r ∈ recs, r.n - r.w ≤ x → x ≤ r.n + r.w →
          exec (.findPosition p) s = .next (s.respond ⟨.ok, recordImage s r true⟩)) ∧
        (∀ r ∈ recs, (∀ y ∈ recs, x < y.n - y.w ∨ y.n + y.w < x) →
          (∀ y ∈ recs, |r.n - x| < |y.n - x| ∨ (|r.n - x| = |y.n - x| ∧ r.n ≤ y.n)) →
          exec (.findPosition p) s = .next (s.respond ⟨.ok, recordImage s r false⟩)))) ∧
    (∀ p : BitVec 48, s.awaits (.seek p) = true →
      (2 ^ 47 - 1 < |p.toInt| → exec (.seek p) s = .next (s.respond ⟨.range, []⟩)) ∧
      (|p.toInt| ≤ 2 ^ 47 - 1 →
        exec (.seek p) s = .next { s with
          table := { s.table with cursorKey := p.toInt, cursorExclusive := false }
          port := { s.port with link := .holding ⟨.ok, []⟩ } })) ∧
    (∀ f : Byte, s.awaits (.readNext f) = true →
      let beyond : LineRec → Prop := fun r =>
        (if s.table.cursorExclusive then s.table.cursorKey < r.n else s.table.cursorKey ≤ r.n) ∧
        f.getLsbD (match r.state with
          | .armed => 0
          | .paused => 1
          | .suspect => 2
          | .complete => 3) = true
      ((f = 0 ∨ 16 ≤ f.toNat) → exec (.readNext f) s = .next (s.respond ⟨.range, []⟩)) ∧
      (f ≠ 0 → f.toNat < 16 →
        ((∀ r ∈ recs, ¬beyond r) → exec (.readNext f) s = .next (s.respond ⟨.absent, [1]⟩)) ∧
        (∀ r ∈ recs, beyond r → (∀ y ∈ recs, beyond y → r.n ≤ y.n) →
          exec (.readNext f) s = .next { s with
            table := { s.table with cursorKey := r.n, cursorExclusive := true }
            port := { s.port with link := .holding ⟨.ok, recordImage s r false⟩ } })))

/-- R133, R134, R126, R75: a commit adds the deviation to the accumulator of its direction, sets the last capture, clears the
consecutive misses and tests the record for COMPLETE; a capture that finds the count at 65535 is dropped whole. -/
def Obligations.CommitAddsTheDeviation : Prop :=
  ∀ (r : LineRec) (d : Dir) (x : Int) (pass : Nat),
    let r' := r.commit d x pass
    let other : Dir := match d with
      | .fwd => .bwd
      | .bwd => .fwd
    ((r.acc d).n = 65535 → r' = r) ∧
    ((r.acc d).n < 65535 →
      r'.acc d = ⟨(r.acc d).n + 1, (r.acc d).sum + x, (r.acc d).sumSq + x ^ 2,
        match (r.acc d).ext with
        | none => some ⟨x, x⟩
        | some m => some ⟨min m.min x, max m.max x⟩⟩ ∧
      r'.acc other = r.acc other ∧ r'.last = some ⟨x, pass, d⟩ ∧ r'.misses = 0 ∧ r'.rejects = r.rejects ∧
      (r'.label = r.label ∧ r'.n = r.n ∧ r'.w = r.w ∧ r'.quotaF = r.quotaF ∧ r'.quotaB = r.quotaB) ∧
      (r.state ≠ .armed → r'.state = r.state) ∧
      (r.state = .armed →
        (r'.state = .complete ↔ (r.quotaF ≠ 0 ∨ r.quotaB ≠ 0) ∧ (r.quotaF = 0 ∨ r'.accF.n = r.quotaF) ∧
          (r.quotaB = 0 ∨ r'.accB.n = r.quotaB)) ∧
        (r'.state = .complete ∨ r'.state = .armed)))

/-- R137 to R141: the mean, the standard deviation, the centre, the bias and the interval, each formed exactly from the
accumulators and rounded once, to the nearest integer with halves away from zero; the standard deviation is the largest
integer that meets its inequality. -/
def Obligations.StatisticsAreRoundedOnce : Prop :=
  let away : ℚ → Int := fun v => if v < 0 then -⌊-v + 1 / 2⌋ else ⌊v + 1 / 2⌋
  let exactMean : Acc → ℚ := fun a => (a.sum : ℚ) / a.n
  let centre : LineRec → ℚ := fun r =>
    if r.accF.n = 0 then exactMean r.accB
    else if r.accB.n = 0 then exactMean r.accF
    else (exactMean r.accF + exactMean r.accB) / 2
  (∀ a : Acc, (a.n = 0 → a.mean = none) ∧ (a.n ≠ 0 → a.mean = some (away (exactMean a))) ∧
    (a.n < 2 → a.deviation = none) ∧
    (a.Sound → 2 ≤ a.n → ∃ sd : Int, a.deviation = some sd ∧ 0 ≤ sd ∧ sd ≤ 70710678 ∧
      sd ^ 2 * a.n * (a.n - 1) ≤ a.n * a.sumSq - a.sum ^ 2 ∧
      a.n * a.sumSq - a.sum ^ 2 < (sd + 1) ^ 2 * a.n * (a.n - 1))) ∧
  (∀ r : LineRec,
    (r.accF.n = 0 → r.accB.n = 0 → r.centre = none) ∧
    (r.accF.n ≠ 0 ∨ r.accB.n ≠ 0 → r.centre = some (away (centre r))) ∧
    (r.accF.n = 0 ∨ r.accB.n = 0 → r.bias = none) ∧
    (r.accF.n ≠ 0 → r.accB.n ≠ 0 → r.bias = some (away ((exactMean r.accF - exactMean r.accB) / 2)))) ∧
  ∀ a b : LineRec,
    ((a.accF.n = 0 ∧ a.accB.n = 0) ∨ (b.accF.n = 0 ∧ b.accB.n = 0) → interval a b = none) ∧
    ((a.accF.n ≠ 0 ∨ a.accB.n ≠ 0) → (b.accF.n ≠ 0 ∨ b.accB.n ≠ 0) →
      interval a b = some (away ((b.n + centre b) - (a.n + centre a))))

/-! ### Passes (chapter 5) -/

/-- R97, R109, R114, R118: SET_TRAVERSE and SET_DETECTOR set every present value, clamped, and are refused with RANGE where the
span or the band that would result is empty or the mode names nothing; a mode carried empties the latch list and discards
the open pulse, and an occupancy then held in a running pass is spoiled with INTERRUPTED. R172, R173: the status is CLAMPED
exactly where a value was clamped. R109: an F carried leaves the one before it in force for the level changes seen up to the
completion, whose core clock lies at a free place between two sample instants (entry 37). -/
def Obligations.TraverseAndDetectorTakeTheirSettings : Prop :=
  ∀ s : State,
    let put : {w : Nat} → Int → Int → Int → Option (BitVec w) → Int := fun lo hi held v =>
      (v.map fun b => max lo (min hi b.toInt)).getD held
    let putByte : Int → Int → Int → Option Byte → Int := fun lo hi held v =>
      (v.map fun b => max lo (min hi (b.toNat : Int))).getD held
    let beyond : {w : Nat} → Int → Int → Option (BitVec w) → Bool := fun lo hi v =>
      (v.map fun b => decide (b.toInt < lo ∨ hi < b.toInt)).getD false
    let beyondByte : Int → Int → Option Byte → Bool := fun lo hi v =>
      (v.map fun b => decide ((b.toNat : Int) < lo ∨ hi < (b.toNat : Int))).getD false
    (∀ q : SetTraverseReq, s.awaits (.setTraverse q) = true → q.unlisted = 0 →
      let lo := put (-(2 ^ 47 - 1)) (2 ^ 47 - 1) s.trav.sLo q.sLo
      let hi := put (-(2 ^ 47 - 1)) (2 ^ 47 - 1) s.trav.sHi q.sHi
      (hi ≤ lo → exec (.setTraverse q) s = .next (s.respond ⟨.range, []⟩)) ∧
      let clamps : Bool := beyond (-(2 ^ 47 - 1)) (2 ^ 47 - 1) q.sLo || beyond (-(2 ^ 47 - 1)) (2 ^ 47 - 1) q.sHi ||
        beyond 1 1000000 q.vStart || beyond 1 1000000 q.vRev
      (lo < hi → exec (.setTraverse q) s = .next { s with
        trav := { s.trav with
          sLo := lo, sHi := hi, vStart := put 1 1000000 s.trav.vStart q.vStart
          vRev := put 1 1000000 s.trav.vRev q.vRev }
        port := { s.port with link := .holding ⟨if clamps then .clamped else .ok, []⟩ } })) ∧
    (∀ q : SetDetectorReq, s.awaits (.setDetector q) = true → q.unlisted = 0 →
      (named modeOf q.mode = none → exec (.setDetector q) s = .next (s.respond ⟨.range, []⟩)) ∧
      ∃ clock : Int, (8 * (s.conversions : Int) - 8 ≤ clock ∧ clock < 8 * s.conversions) ∧
      ∀ mode, named modeOf q.mode = some mode →
        let st : Status := if beyondByte 0 15 q.filter || beyondByte 0 240 q.delay || beyond 0 50000000 q.wMin ||
          beyond 0 50000000 q.wMax || beyondByte 0 15 q.missLimit then .clamped else .ok
        let e : Engine := { s.eng with
          mode := mode.getD s.eng.mode
          priorFilter := if q.filter = none then s.eng.priorFilter else s.eng.filter
          filterClock := if q.filter = none then s.eng.filterClock else clock
          filter := putByte 0 15 s.eng.filter q.filter, delay := putByte 0 240 s.eng.delay q.delay
          wMin := put 0 50000000 s.eng.wMin q.wMin, wMax := put 0 50000000 s.eng.wMax q.wMax
          missLimit := putByte 0 15 s.eng.missLimit q.missLimit }
        (e.wMax < e.wMin → exec (.setDetector q) s = .next (s.respond ⟨.range, []⟩)) ∧
        (e.wMin ≤ e.wMax →
          (q.mode = none → exec (.setDetector q) s = .next { s with
            eng := e, port := { s.port with link := .holding ⟨st, []⟩ } }) ∧
          (q.mode ≠ none → s.eng.occ = none → exec (.setDetector q) s = .next { s with
            eng := { e with latches := [], pulse := none }
            port := { s.port with link := .holding ⟨st, []⟩ } }) ∧
          (∀ o, q.mode ≠ none → s.eng.occ = some o → o.pending = none → s.trav.ctl = .running →
            (∀ r, o.outcome ≠ .spoiled r) → exec (.setDetector q) s = .next { s with
              eng := { e with
                latches := [], pulse := none
                occ := if s.eng.latches = [] ∧ s.eng.pulse = none then some o
                  else some { o with outcome := .spoiled .interrupted } }
              port := { s.port with link := .holding ⟨st, []⟩ } })))

/-- R94 to R96, R128: START_PLAN loads a plan in IDLE; END_PASS ends the running pass with kind REQUEST; STOP_PLAN ends it too,
enters IDLE and raises PLAN_DONE with detail stopped, with no plan completed on the way; HOME is armed in IDLE. Each is
refused with STATE in the other states. -/
def Obligations.PlanRequestsFollowTheController : Prop :=
  ∀ s : State,
    let ok : State → State := fun s => s.respond ⟨.ok, []⟩
    let refused : Host.Outcome State Fault Refusal := .next (s.respond ⟨.state, []⟩)
    (∀ n : BitVec 16, s.awaits (.startPlan n) = true →
      (s.trav.ctl ≠ .idle → exec (.startPlan n) s = refused) ∧
      (s.trav.ctl = .idle → exec (.startPlan n) s = .next (ok { s with
        trav := { s.trav with ctl := .waiting, counted := decide (n ≠ 0), remaining := n.toNat } }))) ∧
    (s.awaits .endPass = true →
      (s.trav.ctl ≠ .running → exec .endPass s = refused) ∧
      (s.trav.ctl = .running → exec .endPass s = .next (ok (s.endPass .request false)))) ∧
    (s.awaits .stopPlan = true →
      (s.trav.ctl = .idle → exec .stopPlan s = refused) ∧
      (s.trav.ctl ≠ .idle → ∃ t, exec .stopPlan s = .next t ∧ t.port.link = .holding ⟨.ok, []⟩ ∧ t.trav.ctl = .idle ∧
        (t.source 10).raised = some ⟨min 255 ((s.source 10).count + 1), .planDone true⟩ ∧
        (s.trav.ctl = .waiting → t.trav = { s.trav with ctl := .idle } ∧ t.table = s.table ∧ t.eng = s.eng) ∧
        (∀ d, s.trav.ctl = .running → s.trav.dir = some d →
          (t.source 9).raised = some ⟨min 255 ((s.source 9).count + 1), .passEnd s.trav.passNo d .request⟩ ∧
          t.eng.occ = none ∧ t.trav.broken = s.trav.broken ∧
          t.trav.remaining = if s.trav.counted then s.trav.remaining - 1 else s.trav.remaining))) ∧
    (s.awaits .home = true →
      (s.trav.ctl ≠ .idle → exec .home s = refused) ∧
      (s.trav.ctl = .idle → exec .home s = .next (ok { s with eng := { s.eng with home := true } })))

/-- R105, R118, R121, R125, R61: what every pass end does: the controller, the open pulse, the occupancy with what it counts,
the PASS-HOLD step, the broken count, the plan, and the raisings PASS_END and PLAN_DONE. Without a running pass nothing
ends. R48, R62: that the PASS-HOLD step goes by the policy as the latest update took it is the model's reading (entry 14). -/
def Obligations.PassEndHasItsEffects : Prop :=
  ∀ (s : State) (kind : EndKind) (inStop : Bool) (d : Dir),
    let t := s.endPass kind inStop
    (s.trav.ctl ≠ .running → t = s) ∧
    (s.trav.ctl = .running → s.trav.dir = some d →
      let debited : Prop := s.trav.counted = true ∧ kind ≠ .broken ∧ s.trav.remaining ≠ 0
      let completes : Prop := debited ∧ s.trav.remaining = 1 ∧ inStop = false
      let counts : Occ → Reject := fun o => match o.outcome with
        | .spoiled r => r
        | _ => if s.eng.pulse ≠ none then .interrupted else if kind = .turn then .reversal else .interrupted
      ((completes → t.trav.ctl = .idle) ∧ (¬completes → t.trav.ctl = .waiting)) ∧
      t.eng = { s.eng with occ := none, pulse := none } ∧
      (s.eng.occ = none → t.table = s.table ∧ t.source 12 = s.source 12) ∧
      (∀ o, s.eng.occ = some o →
        t.table = s.table.modify o.label (LineRec.tally s.eng.missLimit (counts o)) ∧
        (t.source 12).raised = some ⟨min 255 ((s.source 12).count + 1), .reject o.label (counts o)⟩) ∧
      (s.comp.forcePolicy ≠ .passHold → t.comp = s.comp) ∧
      (s.comp.forcePolicy = .passHold →
        t.comp.nuApplied = s.comp.nuTarget ∧
        (t.comp.tApplied = match s.comp.tTarget with
          | some v => some v
          | none => s.comp.tApplied) ∧
        ∀ f : Fin 4, t.comp.factors[f] = lengthFactor (s.chan f).lambda (s.chan f).passK s.comp.nuTarget) ∧
      t.trav.broken = (if kind = .broken then min 65535 (s.trav.broken + 1) else s.trav.broken) ∧
      ((debited → t.trav.remaining = s.trav.remaining - 1) ∧ (¬debited → t.trav.remaining = s.trav.remaining)) ∧
      (t.trav.passNo = s.trav.passNo ∧ t.trav.dir = s.trav.dir) ∧
      ((completes → (t.source 10).raised = some ⟨min 255 ((s.source 10).count + 1), .planDone false⟩) ∧
        (¬completes → t.source 10 = s.source 10)) ∧
      (t.source 9).raised = some ⟨min 255 ((s.source 9).count + 1), .passEnd s.trav.passNo d kind⟩ ∧
      (t.chans = s.chans ∧ t.tracks = s.tracks ∧ t.probe = s.probe ∧ t.port = s.port))

/-- R113, R98 to R103, R105: the aligned track reaches its next sample j when one is due, and nothing happens when none is. P(j)
becomes the latest aligned position and enters the velocity ring while the entries show TRACKING; a WAITING controller starts a
pass when the four conditions hold; a RUNNING one ends it with SPAN, or else with TURN, or runs on; an IDLE one stays. `u` is
the part after these tests. R113, R101, R119: the segment from P(j − 1) to P(j) is then taken (CrossingsFollowTheTravel says
how), of the pass when one was running before the tests and runs on, and none at the first sample of MEASURE's run. R118: the
pulse that is open when P(j) is formed meets its width before the tests (StrobeIsMatchedByItsPosition says how), and may break
the pass by a REJECT; the pulse that is open after the segment meets the entries of sample j. That order is the model's
(entry 11). -/
def Obligations.AlignedSampleTestsThePass : Prop :=
  ∀ s : State, s.rstnLow = false → s.port.link ≠ .resetting →
    let due : Prop := (s.chan 0).state ≠ .off ∧ (s.chan 0).first ≠ none ∧ s.tracks.alignedNext < s.tracks.alignedLimit
    let j := s.tracks.alignedNext
    let p := s.trackPosition j
    let channels : List Channel := s.chan 0 :: (match s.partner with
      | none => []
      | some f => [s.chan f])
    let tracked : Prop := ∀ c ∈ channels, ∃ e, c.entry j = some e ∧ e.state = .tracking
    let referenced : Prop := ∀ c ∈ channels, (∃ e, c.entry j = some e ∧ e.state = .tracking ∧ e.referenced = true) ∧
      c.state = .tracking ∧ c.referenced = true
    (¬due → exec .alignedSample s = .next s) ∧
    (due → ∃ (t u : State) (ring : List Int), exec .alignedSample s = .next t ∧
      t = (if (s.chan 0).first = some j then u
        else u.takeSegment (s.running && u.running) j (s.trav.latest.getD p) p).checkSound j ∧
      (tracked → ring = (if s.trav.ring.length < 17 then s.trav.ring else s.trav.ring.drop 1) ++ [p]) ∧
      (¬tracked → ring = []) ∧
      let dp := ring.getLastD 0 - ring.headD 0
      let forward : Dir := if 0 < dp then .fwd else .bwd
      let inSpan : Prop := s.trav.sLo ≤ p ∧ p ≤ s.trav.sHi
      let starts : Prop := referenced ∧ inSpan ∧ ring.length = 17 ∧ 8 * s.trav.vStart ≤ 5 * |dp|
      let rejectBreaks : Prop := s.eng.pulse ≠ none ∧ (s.source 12).action ≠ .none
      (u.tracks = { s.tracks with alignedNext := j + 1 } ∧ u.trav.latest = some p ∧
        (u.trav.ring = ring ∨ (u.trav.ring = [] ∧ s.trav.ctl = .running ∧ u.trav.ctl ≠ .running)) ∧
        u.chans = s.chans ∧ u.eng.latches = s.eng.latches.map s.completeEdge) ∧
      (s.eng.pulse = none → s.trav.ctl ≠ .running → u.table = s.table ∧ u.att = s.att ∧ u.eng.occ = s.eng.occ) ∧
      (s.trav.ctl = .idle → u.trav.ctl = .idle ∧ u.trav.passNo = s.trav.passNo) ∧
      (s.trav.ctl = .waiting →
        (starts → u.trav.ctl = .running ∧ u.trav.passNo = (s.trav.passNo + 1) % 2 ^ 32 ∧ u.trav.dir = some forward ∧
          u.eng.pulse = none ∧ (s.eng.home = false → s.eng.occ = none → t.trav.ctl = .running ∧ t.eng.occ = none)) ∧
        (¬starts → u.trav.ctl = .waiting ∧ u.trav.passNo = s.trav.passNo ∧ u.trav.dir = s.trav.dir)) ∧
      (∀ d, s.trav.ctl = .running → s.trav.dir = some d →
        let turns : Prop := ring.length = 17 ∧ dp ≠ 0 ∧ forward ≠ d ∧ 8 * s.trav.vRev ≤ 5 * |dp|
        let ended : EndKind → Prop := fun kind => u.trav.ctl ≠ .running ∧ u.eng.occ = none ∧ u.eng.pulse = none ∧
          ∃ n, (u.source 9).raised = some ⟨n, .passEnd s.trav.passNo d kind⟩
        (¬rejectBreaks → (¬inSpan → ended .span) ∧ (inSpan → turns → ended .turn) ∧
          (inSpan → ¬turns → u.trav.ctl = .running)) ∧
        ((¬inSpan → ended .span ∨ ended .broken) ∧ (inSpan → turns → ended .turn ∨ ended .broken) ∧
          (inSpan → ¬turns → u.trav.ctl = .running ∨ ended .broken)) ∧
        u.trav.passNo = s.trav.passNo ∧ u.trav.dir = some d) ∧
      (t.tracks = u.tracks ∧ t.trav.latest = some p ∧ (t.trav.ring = u.trav.ring ∨ t.trav.ring = []) ∧
        t.trav.passNo = u.trav.passNo ∧ t.trav.dir = u.trav.dir) ∧
      (u.trav.ctl ≠ .running → t.trav.ctl = u.trav.ctl) ∧
      ∀ d, u.trav.ctl = .running → u.trav.dir = some d → t.trav.ctl = .running ∨
        (t.trav.ctl = .waiting ∧ ∃ n, (t.source 9).raised = some ⟨n, .passEnd u.trav.passNo d .broken⟩))

/-! ### Line registration (chapter 6) -/

/-- R110 to R112, R114: a level that held F + 1 core clocks is confirmed; its edge is latched with its aligned instant, sample
number and fine time, unless the mode does not use it, MEASURE is OFF or its sample precedes MEASURE's run; an edge that finds
the list full or its segment taken is lost, and spoils an occupancy held in a running pass. The first confirmation after a
reset accepts no edge. An excursion too short changes nothing. R109: a level change seen up to the completion of the latest
SET_DETECTOR that carried an F is governed by the F before it (entry 37). That the clock must follow that of the latest
confirmed level, and that an edge which finds MEASURE on with no sample counted is latched, are the model's readings
(entry 23). -/
def Obligations.EdgeIsLatchedAtItsAlignedInstant : Prop :=
  ∀ (level : Bool) (t held : Nat) (s : State), s.rstnLow = false → s.port.link ≠ .resetting →
    let a : Int := t - s.eng.delay
    let kind : Option EdgeKind := match s.eng.mode, level with
      | .edgeRise, true => some .strobe
      | .edgeFall, false => some .strobe
      | .pulseHigh, true => some .leading
      | .pulseHigh, false => some .trailing
      | .pulseLow, false => some .leading
      | .pulseLow, true => some .trailing
      | _, _ => none
    let e : Engine := { s.eng with level := some level, levelClock := some t }
    let unused : Prop := kind = none ∨ (s.chan 0).state = .off ∨ a < 0 ∨ (a / 8).toNat < (s.chan 0).first.getD 0
    let lost : Prop := 64 ≤ s.eng.latches.length ∨ (a / 8).toNat + 1 < s.tracks.alignedNext
    let spoiled : Occ → Occ := fun o => match o.outcome with
      | .spoiled _ => o
      | _ => { o with outcome := .spoiled .interrupted }
    let filter : Int := if (t : Int) ≤ s.eng.filterClock then s.eng.priorFilter else s.eng.filter
    ((held : Int) < filter + 1 → exec (.edgeAccept level t held) s = .next s) ∧
    (filter + 1 ≤ (held : Int) → s.eng.level = none → s.eng.levelClock = none →
      exec (.edgeAccept level t held) s = .next { s with eng := e }) ∧
    (∀ t0, filter + 1 ≤ (held : Int) → s.eng.level = some (!level) → s.eng.levelClock = some t0 → t0 < t →
      (unused → exec (.edgeAccept level t held) s = .next { s with eng := e }) ∧
      (¬unused → lost →
        (s.trav.ctl ≠ .running ∨ s.eng.occ = none → exec (.edgeAccept level t held) s = .next { s with eng := e }) ∧
        ∀ o, s.trav.ctl = .running → s.eng.occ = some o →
          exec (.edgeAccept level t held) s = .next { s with eng := { e with occ := some (spoiled o) } }) ∧
      (¬unused → ¬lost → ∃ kd, kind = some kd ∧
        exec (.edgeAccept level t held) s = .next { s with eng := { e with
          latches := s.eng.latches ++ [⟨kd, a, (a / 8).toNat, a % 8, none⟩] } }))

/-- R115, R116: a latch that can complete takes its raw eighth-counts and its position from the entries of samples k and k + 1
of MEASURE, and of PARTNER when assigned, and is judged by them; a PARTNER that is OFF, or that answers not held for sample k
or k + 1, makes it complete at once with no position, invalid (R15: the sample precedes the latest CHANNEL_ON or has left the
history). That the first waiting latch which can complete is the one that does is the model's reading (entry 29), and so is
which samples precede a CHANNEL_ON before the first sample of the run (entry 9). An entry of MEASURE that is not held is left
out here. -/
def Obligations.LatchReadsTheHistory : Prop :=
  ∀ (before after : List Edge) (e : Edge) (h0 h1 : HistEntry) (s : State),
    s.rstnLow = false → s.port.link ≠ .resetting → s.eng.latches = before ++ e :: after → e.latch = none →
    (∀ x ∈ before, x.latch ≠ none ∨ s.latchOf x = none) → (s.chan 0).state ≠ .off →
    (s.chan 0).entry e.k = some h0 → (s.chan 0).entry (e.k + 1) = some h1 →
    let rawM := 8 * h0.q + e.fine * (h1.q - h0.q)
    let completes : Latched → Prop := fun l =>
      exec .latchComplete s = .next { s with eng := { s.eng with latches := before ++ { e with latch := some l } :: after } }
    let shows : ChName → List HistEntry → Bool := fun st es => es.all fun h => decide (h.state = st)
    let coasts : List HistEntry → Bool := fun es => es.any fun h => decide (h.state = .coasting)
    let refs : List HistEntry → Bool := fun es => es.all HistEntry.referenced
    (s.partner = none →
      completes ⟨some (s.position (rawM - (s.chan 0).origin) 0), rawM, 0,
        shows .tracking [h0, h1] && refs [h0, h1], shows .tracking [h0, h1], coasts [h0, h1]⟩) ∧
    (∀ f g0 g1, s.partner = some f → (s.chan f).state ≠ .off →
      (s.chan f).entry e.k = some g0 → (s.chan f).entry (e.k + 1) = some g1 →
      let rawP := 8 * g0.q + e.fine * (g1.q - g0.q)
      completes ⟨some (s.position (rawM - (s.chan 0).origin) (rawP - (s.chan f).origin)), rawM, rawP,
        shows .tracking [h0, h1, g0, g1] && refs [h0, h1, g0, g1], shows .tracking [h0, h1, g0, g1],
        coasts [h0, h1, g0, g1]⟩) ∧
    (∀ f, s.partner = some f →
      ((s.chan f).state = .off ∨ ∃ k, (k = e.k ∨ k = e.k + 1) ∧ (s.chan f).entry k = none ∧
        k < (if (s.chan f).first = none then max (s.chan f).onAt (s.chan f).next else (s.chan f).next)) →
      ∃ l, completes l ∧ l.pos = none ∧ l.valid = false ∧ l.homeValid = false)

/-- R119, R120, R121: the crossings of a segment are the window edges its travel passes, entries and exits each on their side,
in the order of travel; an entry begins an occupancy exactly when none is held, the record is eligible in the pass direction
and the side is the one that the pass direction meets first; a crossing of a segment of no pass, or after the pass has ended,
is not taken. R113, R120: a segment takes, from the latch list, the edges whose sample number is below j, and takes them with
the crossings in one order: the edges by aligned instant (those of one instant in either order), the crossings by travel, and a crossing before an edge exactly when
the carriage reaches it before the position of that edge or of an edge taken earlier; an entry at the edge's position comes
before it, an exit after it, and an edge with no position waits for no crossing. -/
def Obligations.CrossingsFollowTheTravel : Prop :=
  (∀ (t : Table) (p0 p1 : Int) (l : Nat) (side : Side) (pos : Int), t.Ordered →
    let place : Crossing → Int := fun c => match c with
      | .enter _ _ x => x
      | .leave _ _ x => x
    (.enter l side pos ∈ t.crossings p0 p1 ↔ ∃ r ∈ t.records, r.label = l ∧
      ((side = .low ∧ pos = r.n - r.w ∧ p0 < pos ∧ pos ≤ p1) ∨ (side = .high ∧ pos = r.n + r.w ∧ p1 ≤ pos ∧ pos < p0))) ∧
    (.leave l side pos ∈ t.crossings p0 p1 ↔ ∃ r ∈ t.records, r.label = l ∧
      ((side = .high ∧ pos = r.n + r.w ∧ p0 ≤ pos ∧ pos < p1) ∨ (side = .low ∧ pos = r.n - r.w ∧ p1 < pos ∧ pos ≤ p0))) ∧
    (p0 < p1 → ((t.crossings p0 p1).map place).Pairwise (· < ·)) ∧
    (p1 < p0 → ((t.crossings p0 p1).map place).Pairwise (· > ·))) ∧
  (∀ (s : State) (r : LineRec) (d : Dir) (side : Side) (pos : Int), s.trav.ctl = .running → s.trav.dir = some d →
    s.table.find r.label = some r →
    let begins : Prop := s.eng.occ = none ∧ r.eligible d = true ∧ side = (if d = .fwd then .low else .high)
    (begins → s.takeCrossing true (.enter r.label side pos) =
      { s with eng := { s.eng with occ := some ⟨r.label, side, d, .none, none⟩ } }) ∧
    (¬begins → s.takeCrossing true (.enter r.label side pos) = s)) ∧
  (∀ (s : State) (belongs : Bool) (c : Crossing), belongs = false ∨ s.trav.ctl ≠ .running → s.takeCrossing belongs c = s) ∧
  ∀ (s : State) (belongs : Bool) (j : Nat) (p0 p1 : Int), s.table.Ordered →
    let taken : State := { s with eng := { s.eng with latches := s.eng.latches.filter fun e => decide (j ≤ e.k) } }
    let reached : Crossing → Edge → Prop := fun c e => ∃ l x, e.latch = some l ∧ l.pos = some x ∧ match c with
      | .enter _ _ pos => if p0 < p1 then pos ≤ x else x ≤ pos
      | .leave _ _ pos => if p0 < p1 then pos < x else x < pos
    ∃ order : List (Crossing ⊕ Edge),
      s.takeSegment belongs j p0 p1 = order.foldl (fun s event => match event with
        | .inl c => s.takeCrossing belongs c
        | .inr e => s.takeEdge belongs e) taken ∧
      order.filterMap Sum.getLeft? = s.table.crossings p0 p1 ∧
      (order.filterMap Sum.getRight?).Perm (s.eng.latches.filter fun e => decide (e.k < j)) ∧
      (order.filterMap Sum.getRight?).Pairwise (fun e e' => e.a ≤ e'.a) ∧
      ∀ (before after : List (Crossing ⊕ Edge)) (e : Edge), order = before ++ .inr e :: after →
        ∀ c, .inl c ∈ before ↔ c ∈ s.table.crossings p0 p1 ∧ (reached c e ∨ ∃ e', .inr e' ∈ before ∧ reached c e')

/-- R122, R123: a strobe of a running pass is matched by its position: outside every window, or with no position, it is a
stray; in a window not occupied it is ignored; in the occupied window it spoils, is taken as the provisional capture, or
doubles, in the order of R122's table. R117, R118: a leading edge discards the open pulse with INTERRUPTED and opens one in a
running pass, or while HOME is armed; an unsound one is discarded at once; a trailing edge closes the open pulse, whose centre
is matched as one strobe in a running pass, with the pending exit taken after it (R124). A pulse discarded spoils the occupancy
and the pending exit is taken. The two checks of an open pulse at an aligned sample: its position against w_max, and the entries
of MEASURE and PARTNER. That a centre whose trailing latch has no position is a strobe with none is the model's reading
(entry 13), and so is that a leading edge of the segment which ends at a pass start, the controller RUNNING as it is taken, opens
a pulse (entry 12). -/
def Obligations.StrobeIsMatchedByItsPosition : Prop :=
  (∀ (s : State) (p : Int) (valid inBand : Bool) (reason : Reject), s.table.Ordered →
    let t := s.matchStrobe (some p) valid reason inBand
    let strayed : State := { s with eng := { s.eng with strays := if s.eng.strays < 65535 then s.eng.strays + 1 else 65535 } }
    s.matchStrobe none valid reason inBand = strayed.raise (.stray none) ∧
    ((∀ r ∈ s.table.records, p < r.n - r.w ∨ r.n + r.w < p) → t = strayed.raise (.stray (some p))) ∧
    ∀ r ∈ s.table.records, r.n - r.w ≤ p → p ≤ r.n + r.w →
      ((∀ o, s.eng.occ = some o → o.label ≠ r.label) → t = s) ∧
      ∀ o, s.eng.occ = some o → o.label = r.label →
        let becomes : OccOutcome → State := fun x => { s with eng := { s.eng with occ := some { o with outcome := x } } }
        (∀ first, o.outcome = .spoiled first → t = s) ∧
        (valid = false → (∀ first, o.outcome ≠ .spoiled first) → t = becomes (.spoiled reason)) ∧
        (valid = true → inBand = false → (∀ first, o.outcome ≠ .spoiled first) → t = becomes (.spoiled .width)) ∧
        (valid = true → inBand = true → o.outcome = .none → t = becomes (.provisional (p - r.n) p)) ∧
        (∀ dev pos, valid = true → inBand = true → o.outcome = .provisional dev pos → t = becomes (.spoiled .double))) ∧
  ∀ (s : State) (e : Edge) (l : Latched) (belongs : Bool), e.latch = some l →
    let passes : Prop := belongs = true ∧ s.trav.ctl = .running
    let reason : Reject := if l.coast then .coast else .interrupted
    let closed : State := { s with eng := { s.eng with pulse := none } }
    let spoil : Reject → State → State := fun x u => { u with eng := { u.eng with occ := u.eng.occ.map fun o =>
      match o.outcome with
      | .spoiled _ => o
      | _ => { o with outcome := .spoiled x } } }
    let exits : State → State := fun u => match u.eng.occ with
      | none => u
      | some o => match o.pending with
        | none => u
        | some side => u.exitOccupancy o side
    let discarded : Reject → State := fun x => if s.eng.pulse = none then s else exits (spoil x closed)
    (e.kind = .strobe → passes → s.takeEdge belongs e = s.matchStrobe l.pos l.valid reason true) ∧
    (e.kind = .leading →
      let u := discarded .interrupted
      let opens : Bool → State := fun forHome => { u with eng := { u.eng with pulse := some ⟨l, forHome⟩ } }
      (u.trav.ctl = .running → s.takeEdge belongs e = if l.valid then opens false else exits (spoil reason u)) ∧
      (u.trav.ctl ≠ .running → u.eng.home = true →
        s.takeEdge belongs e = if l.homeValid then opens true else exits (spoil reason u)) ∧
      (u.trav.ctl ≠ .running → u.eng.home = false → s.takeEdge belongs e = u)) ∧
    (e.kind = .trailing → s.eng.pulse = none → s.takeEdge belongs e = s) ∧
    (∀ p lead, e.kind = .trailing → s.eng.pulse = some p → p.lead.pos = some lead → passes →
      (∀ trail, l.pos = some trail → s.takeEdge belongs e = exits (closed.matchStrobe (some ((lead + trail + 1) / 2)) l.valid
        reason (decide (s.eng.wMin ≤ |trail - lead| ∧ |trail - lead| ≤ s.eng.wMax)))) ∧
      (l.pos = none → s.takeEdge belongs e = exits (closed.matchStrobe none l.valid reason true))) ∧
    (∀ x, s.discardPulse x = discarded x) ∧
    (s.eng.pulse = none → (∀ p, s.checkWidth p = s) ∧ ∀ j, s.checkSound j = s) ∧
    ∀ pulse lead, s.eng.pulse = some pulse → pulse.lead.pos = some lead →
      (∀ p, s.checkWidth p = if s.eng.wMax < |p - lead| then discarded .width else s) ∧
      ∀ j,
        let entries : List (Option HistEntry) := (s.chan 0).entry j :: (match s.partner with
          | none => []
          | some f => [(s.chan f).entry j])
        let sound : Prop := ∀ h ∈ entries, ∃ v, h = some v ∧ v.state = .tracking ∧ (pulse.forHome = false → v.referenced = true)
        (sound → s.checkSound j = s) ∧
        (¬sound → (∃ v, some v ∈ entries ∧ v.state = .coasting) → s.checkSound j = discarded .coast) ∧
        (¬sound → (∀ v, some v ∈ entries → v.state ≠ .coasting) → s.checkSound j = discarded .interrupted)

/-- R124, R126, R127, R73, R76: the exit of the occupied window in a running pass: a provisional capture is committed at the far
side; a miss is counted for an empty crossing, REVERSAL for a near-side exit, and the reason of a spoiled one; the counters
of R73 rise, the miss limit may make the record SUSPECT, and REJECT is raised; R75: a commit that completes the record raises
REC_COMPLETE, and no other does; here where the actions of REJECT and REC_COMPLETE break nothing. R124: while a pulse is open
the exit of the occupied window becomes pending, and other crossings of that window are ignored while one is; otherwise it is
taken at once; the exit of a window not occupied counts nothing. A pending exit is taken with its side. -/
def Obligations.ExitDecidesTheOutcome : Prop :=
  (∀ (s : State) (label : Nat) (side : Side) (pos : Int), s.trav.ctl = .running →
    let t := s.takeCrossing true (.leave label side pos)
    ((∀ o, s.eng.occ = some o → o.label ≠ label ∨ o.pending ≠ none) → t = s) ∧
    ∀ o, s.eng.occ = some o → o.label = label → o.pending = none →
      (s.eng.pulse ≠ none → t = { s with eng := { s.eng with occ := some { o with pending := some side } } }) ∧
      (s.eng.pulse = none → t = s.exitOccupancy o side)) ∧
  (∀ s : State,
    ((∀ o, s.eng.occ = some o → o.pending = none) → s.takePendingExit = s) ∧
    ∀ o side, s.eng.occ = some o → o.pending = some side → s.takePendingExit = s.exitOccupancy o side) ∧
  ∀ (s : State) (o : Occ) (r : LineRec) (side : Side), s.table.find o.label = some r →
    (s.source 12).action = .none → (s.source 11).action = .none →
    let t := s.exitOccupancy o side
    let raised : Reject → Prop := fun x =>
      (t.source 12).raised = some ⟨min 255 ((s.source 12).count + 1), .reject o.label x⟩ ∧ t.trav = s.trav
    let bump : Nat → Nat := fun n => if n < 255 then n + 1 else 255
    t.eng = { s.eng with occ := none } ∧
    (∀ dev pos, o.outcome = .provisional dev pos → side ≠ o.side →
      t.table.find o.label = some (r.commit o.dir dev s.trav.passNo) ∧ t.source 12 = s.source 12 ∧
      (r.state ≠ .complete ∧ (r.commit o.dir dev s.trav.passNo).state = .complete →
        (t.source 11).raised = some ⟨min 255 ((s.source 11).count + 1), .recComplete o.label⟩) ∧
      (¬(r.state ≠ .complete ∧ (r.commit o.dir dev s.trav.passNo).state = .complete) → t.source 11 = s.source 11)) ∧
    (o.outcome = .none → side ≠ o.side → raised .miss ∧
      let misses := if r.misses < 15 then r.misses + 1 else 15
      t.table.find o.label = some { r with
        rejects := { r.rejects with miss := bump r.rejects.miss }
        misses := misses
        state := if s.eng.missLimit ≠ 0 ∧ s.eng.missLimit ≤ (misses : Int) then .suspect else r.state }) ∧
    ((∀ x, o.outcome ≠ .spoiled x) → side = o.side → raised .reversal ∧
      t.table.find o.label = some { r with rejects := { r.rejects with reversal := bump r.rejects.reversal } }) ∧
    (o.outcome = .spoiled .double → raised .double ∧
      t.table.find o.label = some { r with rejects := { r.rejects with double := bump r.rejects.double } }) ∧
    (o.outcome = .spoiled .width → raised .width ∧
      t.table.find o.label = some { r with rejects := { r.rejects with width := bump r.rejects.width } }) ∧
    (o.outcome = .spoiled .coast → raised .coast ∧
      t.table.find o.label = some { r with rejects := { r.rejects with coast := bump r.rejects.coast } }) ∧
    (o.outcome = .spoiled .interrupted → raised .interrupted ∧
      t.table.find o.label = some { r with rejects := { r.rejects with interrupted := bump r.rejects.interrupted } })

/-- R129: a strobe taken in a segment of no pass, while HOME is armed, sets the origins of MEASURE and PARTNER when its latch is
home-valid and both are TRACKING: origin, referenced flag and ν0 of each, HOME disarmed, the velocity ring emptied and
HOME_DONE raised; any other strobe changes nothing. R117, R129: in the pulse modes the strobe is the centre of a pulse at its
trailing edge, in band, with both latches home-valid, and the origins are the means of the raw eighth-counts of the two edges;
the pulse is closed in every case. That a strobe of the segment which ends at a pass start is offered to HOME too is the model's
choice (entry 36). -/
def Obligations.HomeStrobeSetsTheOrigins : Prop :=
  ∀ (s : State) (e : Edge) (l : Latched) (belongs : Bool), e.latch = some l → (belongs = true → s.trav.ctl ≠ .running) →
    let t := s.takeEdge belongs e
    let offered : State → Prop → Int → Int → Prop := fun u sound rawM rawP =>
      let qualifies : Prop := s.eng.home = true ∧ sound ∧ (s.chan 0).state = .tracking ∧
        ∀ f, s.partner = some f → (s.chan f).state = .tracking
      (¬qualifies → t = u) ∧
      (qualifies →
        let homed : Fin 4 → Int → Prop := fun c o =>
          t.chan c = { s.chan c with origin := o, referenced := true, nu0 := s.comp.nuApplied }
        (s.partner ≠ some 0 → homed 0 rawM) ∧ (∀ f, s.partner = some f → homed f rawP) ∧
        (∀ c : Fin 4, c ≠ 0 → s.partner ≠ some c → t.chan c = s.chan c) ∧
        t.eng.home = false ∧ t.trav.ring = [] ∧
        (t.source 8).raised = some ⟨min 255 ((s.source 8).count + 1), .homeDone s.partner⟩ ∧
        ((s.source 8).action = .none ∨ s.trav.ctl ≠ .running →
          t.table = s.table ∧ t.tracks = s.tracks ∧ t.trav = { s.trav with ring := [] } ∧
            t.eng = { u.eng with home := false }))
    (e.kind = .strobe → offered s (l.homeValid = true) l.rawM l.rawP) ∧
    ∀ p lead trail, e.kind = .trailing → s.eng.pulse = some p → p.lead.pos = some lead → l.pos = some trail →
      offered { s with eng := { s.eng with pulse := none } }
        ((s.eng.wMin ≤ |trail - lead| ∧ |trail - lead| ≤ s.eng.wMax) ∧ p.lead.homeValid = true ∧ l.homeValid = true)
        ((p.lead.rawM + l.rawM + 1) / 2) ((p.lead.rawP + l.rawP + 1) / 2)

/-! ### Attention (chapter 8) -/

/-- R149, R150: a raising sets the pending flag, raises the occurrence count up to 255 and replaces the detail, of its own source
alone; where the action is BREAK or STOP and a pass is RUNNING it breaks that pass, and otherwise it does nothing more. That the
detail of PASS_END shows FWD for a running pass without a direction, which no run reaches, is the model's choice (entry 28). -/
def Obligations.RaisingIsCountedAndMayBreak : Prop :=
  ∀ (s : State) (d : Detail),
    let i := d.source
    let noted : Source := { s.source i with raised := some ⟨min 255 ((s.source i).count + 1), d⟩ }
    ((s.source i).action = .none ∨ s.trav.ctl ≠ .running →
      s.raise d = { s with att := { s.att with sources := s.att.sources.set i noted } }) ∧
    ((s.source i).action ≠ .none → s.trav.ctl = .running →
      (s.raise d).trav.ctl = .waiting ∧ (s.raise d).trav.broken = min 65535 (s.trav.broken + 1) ∧
      (∃ n, ((s.raise d).source 9).raised = some ⟨n, .passEnd s.trav.passNo (s.trav.dir.getD .fwd) .broken⟩) ∧
      (i ≠ 9 → i ≠ 12 → (s.raise d).source i = noted) ∧
      ∀ j : Fin 16, j ≠ i → j ≠ 9 → j ≠ 12 → (s.raise d).source j = s.source j)

/-- R152, R153, R106, R167, R155: when each output line is asserted, and which pending source is the first. -/
def Obligations.LinesFollowTheirSources : Prop :=
  ∀ s : State,
    let works : Prop := s.rstnLow = false ∧ s.port.link ≠ .resetting
    let pending : Fin 16 → Prop := fun i => (s.source i).raised ≠ none
    (s.attn = true ↔ works ∧ ∃ i, pending i ∧ s.att.threshold < (s.source i).level) ∧
    (s.mstop = true ↔ works ∧ ∃ i, pending i ∧ (s.source i).action = .stop) ∧
    (s.win = true ↔ works ∧ s.trav.ctl = .running ∧ ∃ d p, s.trav.dir = some d ∧ s.tracks.rt = some p ∧
      ∃ r ∈ s.table.records, r.n - r.w ≤ p ∧ p ≤ r.n + r.w ∧ r.eligible d = true) ∧
    (s.rdy = false ↔ ∃ r, s.port.link = .holding r) ∧
    (s.firstSource = none ↔ ∀ i, ¬pending i) ∧
    ∀ i, s.firstSource = some i ↔ pending i ∧ ∀ j, pending j →
      (s.source j).level < (s.source i).level ∨ ((s.source j).level = (s.source i).level ∧ i ≤ j)

/-- R147, R156: SET_ATTENTION sets every present threshold, level (clamped to 7) and action, changing no pending source, and is
refused with RANGE where a present action names nothing; ACKNOWLEDGE clears the sources of its set, of which a condition
source whose condition holds is left pending with count 1 and the detail of the condition; here where that raising breaks no
running pass. R172, R173: the status is CLAMPED exactly where a threshold or a level was clamped. That ENV_STALE is raised again
with NEVER judged from the record at the completion, and with the age judged at the latest update otherwise, is the model's
reading (entry 16). -/
def Obligations.AttentionRequestsActOnTheirSources : Prop :=
  (∀ (q : SetAttentionReq) (s : State), s.awaits (.setAttention q) = true → q.unlisted = 0 →
    let item : List (Option Byte) → Fin 16 → Option Byte := fun l i => l.getD i.val none
    ((∃ b, some b ∈ q.actions ∧ 2 < b.toNat) → exec (.setAttention q) s = .next (s.respond ⟨.range, []⟩)) ∧
    ((∀ b, some b ∈ q.actions → b.toNat ≤ 2) →
      ∃ t st, exec (.setAttention q) s = .next t ∧ (st = .ok ∨ st = .clamped) ∧
        (st = .clamped ↔ (∃ b, q.threshold = some b ∧ 7 < b.toNat) ∨ ∃ b, some b ∈ q.levels ∧ 7 < b.toNat) ∧
        t = { s with att := t.att, port := { s.port with link := .holding ⟨st, []⟩ } } ∧
        t.att.threshold = (q.threshold.map fun b => min 7 b.toNat).getD s.att.threshold ∧
        ∀ i : Fin 16, (t.source i).raised = (s.source i).raised ∧
          (t.source i).level = ((item q.levels i).map fun b => min 7 b.toNat).getD (s.source i).level ∧
          (item q.actions i = none → (t.source i).action = (s.source i).action) ∧
          (∀ b, item q.actions i = some b → (t.source i).action =
            if b = 0 then .none else if b = 1 then .brk else .stop))) ∧
  (∀ (set : BitVec 16) (s : State), s.awaits (.acknowledge set) = true →
    (s.trav.ctl ≠ .running ∨ ∀ i : Fin 16, i.val < 4 ∨ i = 6 → (s.source i).action = .none) →
    ∃ t, exec (.acknowledge set) s = .next t ∧
      t = { s with att := t.att, port := { s.port with link := .holding ⟨.ok, []⟩ } } ∧
      t.att.threshold = s.att.threshold ∧
      (∀ i : Fin 16, set.getLsbD i.val = false → t.source i = s.source i) ∧
      ∀ i : Fin 16, set.getLsbD i.val = true →
        (t.source i).level = (s.source i).level ∧ (t.source i).action = (s.source i).action ∧
        (∀ c : Fin 4, i.val = c.val → (s.chan c).state = .lost →
          (t.source i).raised = some ⟨1, .lost c (s.chan c).loss⟩) ∧
        (∀ c : Fin 4, i.val = c.val → (s.chan c).state ≠ .lost → (t.source i).raised = none) ∧
        (i = 6 → s.comp.stale = true → (t.source i).raised = some ⟨1, .envStale
          (if s.comp.env.p ≠ none ∧ s.comp.env.tAir ≠ none then some s.comp.judgedAge else none)⟩) ∧
        (i = 6 → s.comp.stale = false → (t.source i).raised = none) ∧
        (4 ≤ i.val → i ≠ 6 → (t.source i).raised = none))

/-! ### What every step keeps -/

/-- R72, R74 to R77, R121, R132: from every state in which the table, its results and the occupancy agree, a step leads to such
a state. -/
def Obligations.StepKeepsResultsSound : Prop :=
  ∀ s t : State, s.ResultsSound → step s = .next t → t.ResultsSound

/-- R13 to R16, R115: from every state in which the counts, origins, rings and histories lie within their limits, a step leads
to such a state. -/
def Obligations.StepKeepsCountsSound : Prop :=
  ∀ s t : State, s.CountsSound → step s = .next t → t.CountsSound

/-- R20, R58: every step keeps the roles, the channel of the TRACKER source and the tracker anchor as they must be. -/
def Obligations.StepKeepsRolesSound : Prop :=
  ∀ s t : State, s.RolesSound → step s = .next t → t.RolesSound

/-- R49, R59 to R61, R63: every step keeps the index within 0..400,000 ppb and every length factor the one of R63. -/
def Obligations.StepKeepsIndexSound : Prop :=
  ∀ s t : State, s.IndexSound → step s = .next t → t.IndexSound

/-- R146, R147, R149: every step keeps a condition source pending while its condition holds, and counts, levels and details as
they must be. -/
def Obligations.StepKeepsAttentionSound : Prop :=
  ∀ s t : State, s.AttentionSound → step s = .next t → t.AttentionSound

/-- R6, R21, R26, R48, R54, R69, R93, R97, R98, R105, R109, R168: every step keeps the plan, the counters, the positions, and every
setting of the channels, their monitors and codes, the compensation unit, the traverse controller and the detector within
their limits. -/
def Obligations.StepKeepsLimitsSound : Prop :=
  ∀ s t : State, s.LimitsSound → step s = .next t → t.LimitsSound
end

