-- ==== Sys2Proof/Laws/State.lean ====
section
/-! SUPPORT. The fields of State after each named update: one lemma for each field, true by definition, so that no proof
unfolds a record update; and what the accessors of a channel and of a source read after a write. -/

namespace Sys2Proof.Machine

/-! ### The accessors -/

@[simp] theorem State.chan_setChan_self (s : State) (c : Fin 4) (ch : Channel) : (s.setChan c ch).chan c = ch := by
  simp [State.chan, State.setChan]

theorem State.chan_setChan_ne (s : State) {c c' : Fin 4} (ch : Channel) (h : c' ≠ c) :
    (s.setChan c ch).chan c' = s.chan c' := by
  have : (c : Nat) ≠ (c' : Nat) := fun e => h (Fin.ext e.symm)
  simp [State.chan, State.setChan, this]

/-- A channel read after a channel is written (R3: the channels are apart). -/
theorem State.chan_setChan (s : State) (c c' : Fin 4) (ch : Channel) :
    (s.setChan c ch).chan c' = if c' = c then ch else s.chan c' := by
  by_cases h : c' = c
  · subst h; simp
  · simp [h, State.chan_setChan_ne s ch h]

@[simp] theorem State.source_setSource_self (s : State) (i : Fin 16) (x : Source) : (s.setSource i x).source i = x := by
  simp [State.source, State.setSource]

theorem State.source_setSource_ne (s : State) {i j : Fin 16} (x : Source) (h : j ≠ i) :
    (s.setSource i x).source j = s.source j := by
  have : (i : Nat) ≠ (j : Nat) := fun e => h (Fin.ext e.symm)
  simp [State.source, State.setSource, this]

@[simp] theorem State.source_note_self (s : State) (d : Detail) :
    (s.note d).source d.source = (s.source d.source).raise d := by simp [State.note]

theorem State.source_note_ne (s : State) {d : Detail} {j : Fin 16} (h : j ≠ d.source) : (s.note d).source j = s.source j := by
  simp [State.note, State.source_setSource_ne s _ h]

/-- The source of a state depends on its attention unit alone. -/
theorem State.source_congr {s t : State} (h : t.att = s.att) (i : Fin 16) : t.source i = s.source i := by
  simp [State.source, h]

/-- The channel of a state depends on its channels alone. -/
theorem State.chan_congr {s t : State} (h : t.chans = s.chans) (c : Fin 4) : t.chan c = s.chan c := by
  simp [State.chan, h]

/-! ### `State.setChan` -/

@[simp] theorem State.setChan_rstnLow (s : State) (c : Fin 4) (ch : Channel) : (s.setChan c ch).rstnLow = s.rstnLow := rfl

@[simp] theorem State.setChan_conversions (s : State) (c : Fin 4) (ch : Channel) :
    (s.setChan c ch).conversions = s.conversions := rfl

@[simp] theorem State.setChan_chans (s : State) (c : Fin 4) (ch : Channel) : (s.setChan c ch).chans = s.chans.set c ch := rfl

@[simp] theorem State.setChan_probe (s : State) (c : Fin 4) (ch : Channel) : (s.setChan c ch).probe = s.probe := rfl

@[simp] theorem State.setChan_comp (s : State) (c : Fin 4) (ch : Channel) : (s.setChan c ch).comp = s.comp := rfl

@[simp] theorem State.setChan_tracks (s : State) (c : Fin 4) (ch : Channel) : (s.setChan c ch).tracks = s.tracks := rfl

@[simp] theorem State.setChan_table (s : State) (c : Fin 4) (ch : Channel) : (s.setChan c ch).table = s.table := rfl

@[simp] theorem State.setChan_trav (s : State) (c : Fin 4) (ch : Channel) : (s.setChan c ch).trav = s.trav := rfl

@[simp] theorem State.setChan_eng (s : State) (c : Fin 4) (ch : Channel) : (s.setChan c ch).eng = s.eng := rfl

@[simp] theorem State.setChan_att (s : State) (c : Fin 4) (ch : Channel) : (s.setChan c ch).att = s.att := rfl

@[simp] theorem State.setChan_port (s : State) (c : Fin 4) (ch : Channel) : (s.setChan c ch).port = s.port := rfl

@[simp] theorem State.setChan_pending (s : State) (c : Fin 4) (ch : Channel) : (s.setChan c ch).pending = s.pending := rfl

/-! ### `State.setSource` -/

@[simp] theorem State.setSource_rstnLow (s : State) (i : Fin 16) (x : Source) : (s.setSource i x).rstnLow = s.rstnLow := rfl

@[simp] theorem State.setSource_conversions (s : State) (i : Fin 16) (x : Source) :
    (s.setSource i x).conversions = s.conversions := rfl

@[simp] theorem State.setSource_chans (s : State) (i : Fin 16) (x : Source) : (s.setSource i x).chans = s.chans := rfl

@[simp] theorem State.setSource_probe (s : State) (i : Fin 16) (x : Source) : (s.setSource i x).probe = s.probe := rfl

@[simp] theorem State.setSource_comp (s : State) (i : Fin 16) (x : Source) : (s.setSource i x).comp = s.comp := rfl

@[simp] theorem State.setSource_tracks (s : State) (i : Fin 16) (x : Source) : (s.setSource i x).tracks = s.tracks := rfl

@[simp] theorem State.setSource_table (s : State) (i : Fin 16) (x : Source) : (s.setSource i x).table = s.table := rfl

@[simp] theorem State.setSource_trav (s : State) (i : Fin 16) (x : Source) : (s.setSource i x).trav = s.trav := rfl

@[simp] theorem State.setSource_eng (s : State) (i : Fin 16) (x : Source) : (s.setSource i x).eng = s.eng := rfl

@[simp] theorem State.setSource_att (s : State) (i : Fin 16) (x : Source) :
    (s.setSource i x).att = { s.att with sources := s.att.sources.set i x } := rfl

@[simp] theorem State.setSource_port (s : State) (i : Fin 16) (x : Source) : (s.setSource i x).port = s.port := rfl

@[simp] theorem State.setSource_pending (s : State) (i : Fin 16) (x : Source) : (s.setSource i x).pending = s.pending := rfl

/-! ### `State.note` -/

@[simp] theorem State.note_rstnLow (s : State) (d : Detail) : (s.note d).rstnLow = s.rstnLow := rfl

@[simp] theorem State.note_conversions (s : State) (d : Detail) : (s.note d).conversions = s.conversions := rfl

@[simp] theorem State.note_chans (s : State) (d : Detail) : (s.note d).chans = s.chans := rfl

@[simp] theorem State.note_probe (s : State) (d : Detail) : (s.note d).probe = s.probe := rfl

@[simp] theorem State.note_comp (s : State) (d : Detail) : (s.note d).comp = s.comp := rfl

@[simp] theorem State.note_tracks (s : State) (d : Detail) : (s.note d).tracks = s.tracks := rfl

@[simp] theorem State.note_table (s : State) (d : Detail) : (s.note d).table = s.table := rfl

@[simp] theorem State.note_trav (s : State) (d : Detail) : (s.note d).trav = s.trav := rfl

@[simp] theorem State.note_eng (s : State) (d : Detail) : (s.note d).eng = s.eng := rfl

@[simp] theorem State.note_att (s : State) (d : Detail) :
    (s.note d).att = { s.att with sources := s.att.sources.set d.source ((s.source d.source).raise d) } := rfl

@[simp] theorem State.note_port (s : State) (d : Detail) : (s.note d).port = s.port := rfl

@[simp] theorem State.note_pending (s : State) (d : Detail) : (s.note d).pending = s.pending := rfl

/-! ### `State.respond` -/

@[simp] theorem State.respond_rstnLow (s : State) (r : Response) : (s.respond r).rstnLow = s.rstnLow := rfl

@[simp] theorem State.respond_conversions (s : State) (r : Response) : (s.respond r).conversions = s.conversions := rfl

@[simp] theorem State.respond_chans (s : State) (r : Response) : (s.respond r).chans = s.chans := rfl

@[simp] theorem State.respond_probe (s : State) (r : Response) : (s.respond r).probe = s.probe := rfl

@[simp] theorem State.respond_comp (s : State) (r : Response) : (s.respond r).comp = s.comp := rfl

@[simp] theorem State.respond_tracks (s : State) (r : Response) : (s.respond r).tracks = s.tracks := rfl

@[simp] theorem State.respond_table (s : State) (r : Response) : (s.respond r).table = s.table := rfl

@[simp] theorem State.respond_trav (s : State) (r : Response) : (s.respond r).trav = s.trav := rfl

@[simp] theorem State.respond_eng (s : State) (r : Response) : (s.respond r).eng = s.eng := rfl

@[simp] theorem State.respond_att (s : State) (r : Response) : (s.respond r).att = s.att := rfl

@[simp] theorem State.respond_port (s : State) (r : Response) :
    (s.respond r).port = { s.port with link := .holding r } := rfl

@[simp] theorem State.respond_pending (s : State) (r : Response) : (s.respond r).pending = s.pending := rfl

/-! ### `State.refactor` -/

@[simp] theorem State.refactor_rstnLow (s : State) (c : Fin 4) : (s.refactor c).rstnLow = s.rstnLow := rfl

@[simp] theorem State.refactor_conversions (s : State) (c : Fin 4) : (s.refactor c).conversions = s.conversions := rfl

@[simp] theorem State.refactor_chans (s : State) (c : Fin 4) : (s.refactor c).chans = s.chans := rfl

@[simp] theorem State.refactor_probe (s : State) (c : Fin 4) : (s.refactor c).probe = s.probe := rfl

@[simp] theorem State.refactor_comp (s : State) (c : Fin 4) :
    (s.refactor c).comp = { s.comp with factors := s.comp.factors.set c (s.factorOf c) } := rfl

@[simp] theorem State.refactor_tracks (s : State) (c : Fin 4) : (s.refactor c).tracks = s.tracks := rfl

@[simp] theorem State.refactor_table (s : State) (c : Fin 4) : (s.refactor c).table = s.table := rfl

@[simp] theorem State.refactor_trav (s : State) (c : Fin 4) : (s.refactor c).trav = s.trav := rfl

@[simp] theorem State.refactor_eng (s : State) (c : Fin 4) : (s.refactor c).eng = s.eng := rfl

@[simp] theorem State.refactor_att (s : State) (c : Fin 4) : (s.refactor c).att = s.att := rfl

@[simp] theorem State.refactor_port (s : State) (c : Fin 4) : (s.refactor c).port = s.port := rfl

@[simp] theorem State.refactor_pending (s : State) (c : Fin 4) : (s.refactor c).pending = s.pending := rfl

/-! ### `State.refactorAll` -/

@[simp] theorem State.refactorAll_rstnLow (s : State) : (s.refactorAll).rstnLow = s.rstnLow := rfl

@[simp] theorem State.refactorAll_conversions (s : State) : (s.refactorAll).conversions = s.conversions := rfl

@[simp] theorem State.refactorAll_chans (s : State) : (s.refactorAll).chans = s.chans := rfl

@[simp] theorem State.refactorAll_probe (s : State) : (s.refactorAll).probe = s.probe := rfl

@[simp] theorem State.refactorAll_comp (s : State) :
    (s.refactorAll).comp = { s.comp with factors := #v[s.factorOf 0, s.factorOf 1, s.factorOf 2, s.factorOf 3] } := rfl

@[simp] theorem State.refactorAll_tracks (s : State) : (s.refactorAll).tracks = s.tracks := rfl

@[simp] theorem State.refactorAll_table (s : State) : (s.refactorAll).table = s.table := rfl

@[simp] theorem State.refactorAll_trav (s : State) : (s.refactorAll).trav = s.trav := rfl

@[simp] theorem State.refactorAll_eng (s : State) : (s.refactorAll).eng = s.eng := rfl

@[simp] theorem State.refactorAll_att (s : State) : (s.refactorAll).att = s.att := rfl

@[simp] theorem State.refactorAll_port (s : State) : (s.refactorAll).port = s.port := rfl

@[simp] theorem State.refactorAll_pending (s : State) : (s.refactorAll).pending = s.pending := rfl

/-! ### `State.emptyRing` -/

@[simp] theorem State.emptyRing_rstnLow (s : State) : (s.emptyRing).rstnLow = s.rstnLow := rfl

@[simp] theorem State.emptyRing_conversions (s : State) : (s.emptyRing).conversions = s.conversions := rfl

@[simp] theorem State.emptyRing_chans (s : State) : (s.emptyRing).chans = s.chans := rfl

@[simp] theorem State.emptyRing_probe (s : State) : (s.emptyRing).probe = s.probe := rfl

@[simp] theorem State.emptyRing_comp (s : State) : (s.emptyRing).comp = s.comp := rfl

@[simp] theorem State.emptyRing_tracks (s : State) : (s.emptyRing).tracks = s.tracks := rfl

@[simp] theorem State.emptyRing_table (s : State) : (s.emptyRing).table = s.table := rfl

@[simp] theorem State.emptyRing_trav (s : State) : (s.emptyRing).trav = { s.trav with ring := [] } := rfl

@[simp] theorem State.emptyRing_eng (s : State) : (s.emptyRing).eng = s.eng := rfl

@[simp] theorem State.emptyRing_att (s : State) : (s.emptyRing).att = s.att := rfl

@[simp] theorem State.emptyRing_port (s : State) : (s.emptyRing).port = s.port := rfl

@[simp] theorem State.emptyRing_pending (s : State) : (s.emptyRing).pending = s.pending := rfl

/-! ### `State.vacate` -/

@[simp] theorem State.vacate_rstnLow (s : State) : (s.vacate).rstnLow = s.rstnLow := rfl

@[simp] theorem State.vacate_conversions (s : State) : (s.vacate).conversions = s.conversions := rfl

@[simp] theorem State.vacate_chans (s : State) : (s.vacate).chans = s.chans := rfl

@[simp] theorem State.vacate_probe (s : State) : (s.vacate).probe = s.probe := rfl

@[simp] theorem State.vacate_comp (s : State) : (s.vacate).comp = s.comp := rfl

@[simp] theorem State.vacate_tracks (s : State) : (s.vacate).tracks = s.tracks := rfl

@[simp] theorem State.vacate_table (s : State) : (s.vacate).table = s.table := rfl

@[simp] theorem State.vacate_trav (s : State) : (s.vacate).trav = s.trav := rfl

@[simp] theorem State.vacate_eng (s : State) : (s.vacate).eng = { s.eng with occ := none } := rfl

@[simp] theorem State.vacate_att (s : State) : (s.vacate).att = s.att := rfl

@[simp] theorem State.vacate_port (s : State) : (s.vacate).port = s.port := rfl

@[simp] theorem State.vacate_pending (s : State) : (s.vacate).pending = s.pending := rfl

/-! ### `State.tally` -/

@[simp] theorem State.tally_rstnLow (s : State) (label : Nat) (reason : Reject) :
    (s.tally label reason).rstnLow = s.rstnLow := rfl

@[simp] theorem State.tally_conversions (s : State) (label : Nat) (reason : Reject) :
    (s.tally label reason).conversions = s.conversions := rfl

@[simp] theorem State.tally_chans (s : State) (label : Nat) (reason : Reject) : (s.tally label reason).chans = s.chans := rfl

@[simp] theorem State.tally_probe (s : State) (label : Nat) (reason : Reject) : (s.tally label reason).probe = s.probe := rfl

@[simp] theorem State.tally_comp (s : State) (label : Nat) (reason : Reject) : (s.tally label reason).comp = s.comp := rfl

@[simp] theorem State.tally_tracks (s : State) (label : Nat) (reason : Reject) :
    (s.tally label reason).tracks = s.tracks := rfl

@[simp] theorem State.tally_table (s : State) (label : Nat) (reason : Reject) :
    (s.tally label reason).table = s.table.modify label (LineRec.tally s.eng.missLimit reason) := rfl

@[simp] theorem State.tally_trav (s : State) (label : Nat) (reason : Reject) : (s.tally label reason).trav = s.trav := rfl

@[simp] theorem State.tally_eng (s : State) (label : Nat) (reason : Reject) : (s.tally label reason).eng = s.eng := rfl

@[simp] theorem State.tally_att (s : State) (label : Nat) (reason : Reject) : (s.tally label reason).att = s.att := rfl

@[simp] theorem State.tally_port (s : State) (label : Nat) (reason : Reject) : (s.tally label reason).port = s.port := rfl

@[simp] theorem State.tally_pending (s : State) (label : Nat) (reason : Reject) :
    (s.tally label reason).pending = s.pending := rfl

/-! ### `State.leaveRunning` -/

@[simp] theorem State.leaveRunning_rstnLow (s : State) : (s.leaveRunning).rstnLow = s.rstnLow := rfl

@[simp] theorem State.leaveRunning_conversions (s : State) : (s.leaveRunning).conversions = s.conversions := rfl

@[simp] theorem State.leaveRunning_chans (s : State) : (s.leaveRunning).chans = s.chans := rfl

@[simp] theorem State.leaveRunning_probe (s : State) : (s.leaveRunning).probe = s.probe := rfl

@[simp] theorem State.leaveRunning_comp (s : State) : (s.leaveRunning).comp = s.comp := rfl

@[simp] theorem State.leaveRunning_tracks (s : State) : (s.leaveRunning).tracks = s.tracks := rfl

@[simp] theorem State.leaveRunning_table (s : State) : (s.leaveRunning).table = s.table := rfl

@[simp] theorem State.leaveRunning_trav (s : State) : (s.leaveRunning).trav = { s.trav with ctl := .waiting } := rfl

@[simp] theorem State.leaveRunning_eng (s : State) : (s.leaveRunning).eng = s.eng := rfl

@[simp] theorem State.leaveRunning_att (s : State) : (s.leaveRunning).att = s.att := rfl

@[simp] theorem State.leaveRunning_port (s : State) : (s.leaveRunning).port = s.port := rfl

@[simp] theorem State.leaveRunning_pending (s : State) : (s.leaveRunning).pending = s.pending := rfl

/-! ### `State.goIdle` -/

@[simp] theorem State.goIdle_rstnLow (s : State) : (s.goIdle).rstnLow = s.rstnLow := rfl

@[simp] theorem State.goIdle_conversions (s : State) : (s.goIdle).conversions = s.conversions := rfl

@[simp] theorem State.goIdle_chans (s : State) : (s.goIdle).chans = s.chans := rfl

@[simp] theorem State.goIdle_probe (s : State) : (s.goIdle).probe = s.probe := rfl

@[simp] theorem State.goIdle_comp (s : State) : (s.goIdle).comp = s.comp := rfl

@[simp] theorem State.goIdle_tracks (s : State) : (s.goIdle).tracks = s.tracks := rfl

@[simp] theorem State.goIdle_table (s : State) : (s.goIdle).table = s.table := rfl

@[simp] theorem State.goIdle_trav (s : State) : (s.goIdle).trav = { s.trav with ctl := .idle } := rfl

@[simp] theorem State.goIdle_eng (s : State) : (s.goIdle).eng = s.eng := rfl

@[simp] theorem State.goIdle_att (s : State) : (s.goIdle).att = s.att := rfl

@[simp] theorem State.goIdle_port (s : State) : (s.goIdle).port = s.port := rfl

@[simp] theorem State.goIdle_pending (s : State) : (s.goIdle).pending = s.pending := rfl

/-! ### `State.completeLatches` -/

@[simp] theorem State.completeLatches_rstnLow (s : State) : (s.completeLatches).rstnLow = s.rstnLow := rfl

@[simp] theorem State.completeLatches_conversions (s : State) : (s.completeLatches).conversions = s.conversions := rfl

@[simp] theorem State.completeLatches_chans (s : State) : (s.completeLatches).chans = s.chans := rfl

@[simp] theorem State.completeLatches_probe (s : State) : (s.completeLatches).probe = s.probe := rfl

@[simp] theorem State.completeLatches_comp (s : State) : (s.completeLatches).comp = s.comp := rfl

@[simp] theorem State.completeLatches_tracks (s : State) : (s.completeLatches).tracks = s.tracks := rfl

@[simp] theorem State.completeLatches_table (s : State) : (s.completeLatches).table = s.table := rfl

@[simp] theorem State.completeLatches_trav (s : State) : (s.completeLatches).trav = s.trav := rfl

@[simp] theorem State.completeLatches_eng (s : State) :
    (s.completeLatches).eng = { s.eng with latches := s.eng.latches.map s.completeEdge } := rfl

@[simp] theorem State.completeLatches_att (s : State) : (s.completeLatches).att = s.att := rfl

@[simp] theorem State.completeLatches_port (s : State) : (s.completeLatches).port = s.port := rfl

@[simp] theorem State.completeLatches_pending (s : State) : (s.completeLatches).pending = s.pending := rfl

/-! ### `State.setRecords` -/

@[simp] theorem State.setRecords_rstnLow (s : State) (rs : List LineRec) : (s.setRecords rs).rstnLow = s.rstnLow := rfl

@[simp] theorem State.setRecords_conversions (s : State) (rs : List LineRec) :
    (s.setRecords rs).conversions = s.conversions := rfl

@[simp] theorem State.setRecords_chans (s : State) (rs : List LineRec) : (s.setRecords rs).chans = s.chans := rfl

@[simp] theorem State.setRecords_probe (s : State) (rs : List LineRec) : (s.setRecords rs).probe = s.probe := rfl

@[simp] theorem State.setRecords_comp (s : State) (rs : List LineRec) : (s.setRecords rs).comp = s.comp := rfl

@[simp] theorem State.setRecords_tracks (s : State) (rs : List LineRec) : (s.setRecords rs).tracks = s.tracks := rfl

@[simp] theorem State.setRecords_table (s : State) (rs : List LineRec) :
    (s.setRecords rs).table = { s.table with records := rs } := rfl

@[simp] theorem State.setRecords_trav (s : State) (rs : List LineRec) : (s.setRecords rs).trav = s.trav := rfl

@[simp] theorem State.setRecords_eng (s : State) (rs : List LineRec) : (s.setRecords rs).eng = s.eng := rfl

@[simp] theorem State.setRecords_att (s : State) (rs : List LineRec) : (s.setRecords rs).att = s.att := rfl

@[simp] theorem State.setRecords_port (s : State) (rs : List LineRec) : (s.setRecords rs).port = s.port := rfl

@[simp] theorem State.setRecords_pending (s : State) (rs : List LineRec) : (s.setRecords rs).pending = s.pending := rfl

/-! ### `State.setCursor` -/

@[simp] theorem State.setCursor_rstnLow (s : State) (key : Int) (exclusive : Bool) :
    (s.setCursor key exclusive).rstnLow = s.rstnLow := rfl

@[simp] theorem State.setCursor_conversions (s : State) (key : Int) (exclusive : Bool) :
    (s.setCursor key exclusive).conversions = s.conversions := rfl

@[simp] theorem State.setCursor_chans (s : State) (key : Int) (exclusive : Bool) :
    (s.setCursor key exclusive).chans = s.chans := rfl

@[simp] theorem State.setCursor_probe (s : State) (key : Int) (exclusive : Bool) :
    (s.setCursor key exclusive).probe = s.probe := rfl

@[simp] theorem State.setCursor_comp (s : State) (key : Int) (exclusive : Bool) :
    (s.setCursor key exclusive).comp = s.comp := rfl

@[simp] theorem State.setCursor_tracks (s : State) (key : Int) (exclusive : Bool) :
    (s.setCursor key exclusive).tracks = s.tracks := rfl

@[simp] theorem State.setCursor_table (s : State) (key : Int) (exclusive : Bool) :
    (s.setCursor key exclusive).table = { s.table with cursorKey := key, cursorExclusive := exclusive } := rfl

@[simp] theorem State.setCursor_trav (s : State) (key : Int) (exclusive : Bool) :
    (s.setCursor key exclusive).trav = s.trav := rfl

@[simp] theorem State.setCursor_eng (s : State) (key : Int) (exclusive : Bool) :
    (s.setCursor key exclusive).eng = s.eng := rfl

@[simp] theorem State.setCursor_att (s : State) (key : Int) (exclusive : Bool) :
    (s.setCursor key exclusive).att = s.att := rfl

@[simp] theorem State.setCursor_port (s : State) (key : Int) (exclusive : Bool) :
    (s.setCursor key exclusive).port = s.port := rfl

@[simp] theorem State.setCursor_pending (s : State) (key : Int) (exclusive : Bool) :
    (s.setCursor key exclusive).pending = s.pending := rfl

/-! ### `State.setAnchor` -/

@[simp] theorem State.setAnchor_rstnLow (s : State) (a : TrackerAnchor) : (s.setAnchor a).rstnLow = s.rstnLow := rfl

@[simp] theorem State.setAnchor_conversions (s : State) (a : TrackerAnchor) :
    (s.setAnchor a).conversions = s.conversions := rfl

@[simp] theorem State.setAnchor_chans (s : State) (a : TrackerAnchor) : (s.setAnchor a).chans = s.chans := rfl

@[simp] theorem State.setAnchor_probe (s : State) (a : TrackerAnchor) : (s.setAnchor a).probe = s.probe := rfl

@[simp] theorem State.setAnchor_comp (s : State) (a : TrackerAnchor) :
    (s.setAnchor a).comp = { s.comp with anchor := some a } := rfl

@[simp] theorem State.setAnchor_tracks (s : State) (a : TrackerAnchor) : (s.setAnchor a).tracks = s.tracks := rfl

@[simp] theorem State.setAnchor_table (s : State) (a : TrackerAnchor) : (s.setAnchor a).table = s.table := rfl

@[simp] theorem State.setAnchor_trav (s : State) (a : TrackerAnchor) : (s.setAnchor a).trav = s.trav := rfl

@[simp] theorem State.setAnchor_eng (s : State) (a : TrackerAnchor) : (s.setAnchor a).eng = s.eng := rfl

@[simp] theorem State.setAnchor_att (s : State) (a : TrackerAnchor) : (s.setAnchor a).att = s.att := rfl

@[simp] theorem State.setAnchor_port (s : State) (a : TrackerAnchor) : (s.setAnchor a).port = s.port := rfl

@[simp] theorem State.setAnchor_pending (s : State) (a : TrackerAnchor) : (s.setAnchor a).pending = s.pending := rfl

/-! ### `State.gainFooting` -/

@[simp] theorem State.gainFooting_rstnLow (s : State) : (s.gainFooting).rstnLow = s.rstnLow := rfl

@[simp] theorem State.gainFooting_conversions (s : State) : (s.gainFooting).conversions = s.conversions := rfl

@[simp] theorem State.gainFooting_chans (s : State) : (s.gainFooting).chans = s.chans := rfl

@[simp] theorem State.gainFooting_probe (s : State) : (s.gainFooting).probe = s.probe := rfl

@[simp] theorem State.gainFooting_comp (s : State) : (s.gainFooting).comp = s.comp := rfl

@[simp] theorem State.gainFooting_tracks (s : State) : (s.gainFooting).tracks = s.tracks := rfl

@[simp] theorem State.gainFooting_table (s : State) : (s.gainFooting).table = s.table := rfl

@[simp] theorem State.gainFooting_trav (s : State) : (s.gainFooting).trav = s.trav := rfl

@[simp] theorem State.gainFooting_eng (s : State) : (s.gainFooting).eng = s.eng := rfl

@[simp] theorem State.gainFooting_att (s : State) : (s.gainFooting).att = s.att := rfl

@[simp] theorem State.gainFooting_port (s : State) : (s.gainFooting).port = { s.port with footing := true } := rfl

@[simp] theorem State.gainFooting_pending (s : State) : (s.gainFooting).pending = s.pending := rfl

/-! ### `State.drive` -/

@[simp] theorem State.drive_rstnLow (s : State) (bytes : List Byte) : (s.drive bytes).rstnLow = s.rstnLow := rfl

@[simp] theorem State.drive_conversions (s : State) (bytes : List Byte) : (s.drive bytes).conversions = s.conversions := rfl

@[simp] theorem State.drive_chans (s : State) (bytes : List Byte) : (s.drive bytes).chans = s.chans := rfl

@[simp] theorem State.drive_probe (s : State) (bytes : List Byte) : (s.drive bytes).probe = s.probe := rfl

@[simp] theorem State.drive_comp (s : State) (bytes : List Byte) : (s.drive bytes).comp = s.comp := rfl

@[simp] theorem State.drive_tracks (s : State) (bytes : List Byte) : (s.drive bytes).tracks = s.tracks := rfl

@[simp] theorem State.drive_table (s : State) (bytes : List Byte) : (s.drive bytes).table = s.table := rfl

@[simp] theorem State.drive_trav (s : State) (bytes : List Byte) : (s.drive bytes).trav = s.trav := rfl

@[simp] theorem State.drive_eng (s : State) (bytes : List Byte) : (s.drive bytes).eng = s.eng := rfl

@[simp] theorem State.drive_att (s : State) (bytes : List Byte) : (s.drive bytes).att = s.att := rfl

@[simp] theorem State.drive_port (s : State) (bytes : List Byte) : (s.drive bytes).port = { s.port with sdo := bytes } := rfl

@[simp] theorem State.drive_pending (s : State) (bytes : List Byte) : (s.drive bytes).pending = s.pending := rfl

/-! ### `State.setOrigin` -/

@[simp] theorem State.setOrigin_rstnLow (s : State) (c : Fin 4) (o : Int) : (s.setOrigin c o).rstnLow = s.rstnLow := rfl

@[simp] theorem State.setOrigin_conversions (s : State) (c : Fin 4) (o : Int) :
    (s.setOrigin c o).conversions = s.conversions := rfl

@[simp] theorem State.setOrigin_chans (s : State) (c : Fin 4) (o : Int) :
    (s.setOrigin c o).chans = s.chans.set c { s.chan c with origin := o, referenced := true, nu0 := s.comp.nuApplied } := rfl

@[simp] theorem State.setOrigin_probe (s : State) (c : Fin 4) (o : Int) : (s.setOrigin c o).probe = s.probe := rfl

@[simp] theorem State.setOrigin_comp (s : State) (c : Fin 4) (o : Int) : (s.setOrigin c o).comp = s.comp := rfl

@[simp] theorem State.setOrigin_tracks (s : State) (c : Fin 4) (o : Int) : (s.setOrigin c o).tracks = s.tracks := rfl

@[simp] theorem State.setOrigin_table (s : State) (c : Fin 4) (o : Int) : (s.setOrigin c o).table = s.table := rfl

@[simp] theorem State.setOrigin_trav (s : State) (c : Fin 4) (o : Int) : (s.setOrigin c o).trav = s.trav := rfl

@[simp] theorem State.setOrigin_eng (s : State) (c : Fin 4) (o : Int) : (s.setOrigin c o).eng = s.eng := rfl

@[simp] theorem State.setOrigin_att (s : State) (c : Fin 4) (o : Int) : (s.setOrigin c o).att = s.att := rfl

@[simp] theorem State.setOrigin_port (s : State) (c : Fin 4) (o : Int) : (s.setOrigin c o).port = s.port := rfl

@[simp] theorem State.setOrigin_pending (s : State) (c : Fin 4) (o : Int) : (s.setOrigin c o).pending = s.pending := rfl

/-! ### `State.notePosition` -/

@[simp] theorem State.notePosition_rstnLow (s : State) (j : Nat) (p : Int) : (s.notePosition j p).rstnLow = s.rstnLow := rfl

@[simp] theorem State.notePosition_conversions (s : State) (j : Nat) (p : Int) :
    (s.notePosition j p).conversions = s.conversions := rfl

@[simp] theorem State.notePosition_chans (s : State) (j : Nat) (p : Int) : (s.notePosition j p).chans = s.chans := rfl

@[simp] theorem State.notePosition_probe (s : State) (j : Nat) (p : Int) : (s.notePosition j p).probe = s.probe := rfl

@[simp] theorem State.notePosition_comp (s : State) (j : Nat) (p : Int) : (s.notePosition j p).comp = s.comp := rfl

@[simp] theorem State.notePosition_tracks (s : State) (j : Nat) (p : Int) : (s.notePosition j p).tracks = s.tracks := rfl

@[simp] theorem State.notePosition_table (s : State) (j : Nat) (p : Int) : (s.notePosition j p).table = s.table := rfl

@[simp] theorem State.notePosition_trav (s : State) (j : Nat) (p : Int) :
    (s.notePosition j p).trav =
      { s.trav with latest := some p, ring := if allEntries HistEntry.tracks (s.entriesAt j) then pushPosition s.trav.ring p else [] } := rfl

@[simp] theorem State.notePosition_eng (s : State) (j : Nat) (p : Int) : (s.notePosition j p).eng = s.eng := rfl

@[simp] theorem State.notePosition_att (s : State) (j : Nat) (p : Int) : (s.notePosition j p).att = s.att := rfl

@[simp] theorem State.notePosition_port (s : State) (j : Nat) (p : Int) : (s.notePosition j p).port = s.port := rfl

@[simp] theorem State.notePosition_pending (s : State) (j : Nat) (p : Int) : (s.notePosition j p).pending = s.pending := rfl

/-! ### `State.startPass` -/

@[simp] theorem State.startPass_rstnLow (s : State) (dp : Int) : (s.startPass dp).rstnLow = s.rstnLow := rfl

@[simp] theorem State.startPass_conversions (s : State) (dp : Int) : (s.startPass dp).conversions = s.conversions := rfl

@[simp] theorem State.startPass_chans (s : State) (dp : Int) : (s.startPass dp).chans = s.chans := rfl

@[simp] theorem State.startPass_probe (s : State) (dp : Int) : (s.startPass dp).probe = s.probe := rfl

@[simp] theorem State.startPass_comp (s : State) (dp : Int) : (s.startPass dp).comp = s.comp := rfl

@[simp] theorem State.startPass_tracks (s : State) (dp : Int) : (s.startPass dp).tracks = s.tracks := rfl

@[simp] theorem State.startPass_table (s : State) (dp : Int) : (s.startPass dp).table = s.table := rfl

@[simp] theorem State.startPass_trav (s : State) (dp : Int) :
    (s.startPass dp).trav =
      { s.trav with dir := some (dirOf dp), passNo := (s.trav.passNo + 1) % 2 ^ 32, ctl := .running } := rfl

@[simp] theorem State.startPass_eng (s : State) (dp : Int) : (s.startPass dp).eng = { s.eng with pulse := none } := rfl

@[simp] theorem State.startPass_att (s : State) (dp : Int) : (s.startPass dp).att = s.att := rfl

@[simp] theorem State.startPass_port (s : State) (dp : Int) : (s.startPass dp).port = s.port := rfl

@[simp] theorem State.startPass_pending (s : State) (dp : Int) : (s.startPass dp).pending = s.pending := rfl

/-! ### `State.resetBegin` -/

@[simp] theorem State.resetBegin_rstnLow (s : State) : (s.resetBegin).rstnLow = s.rstnLow := rfl

@[simp] theorem State.resetBegin_conversions (s : State) : (s.resetBegin).conversions = s.conversions := rfl

@[simp] theorem State.resetBegin_chans (s : State) : (s.resetBegin).chans = s.chans := rfl

@[simp] theorem State.resetBegin_probe (s : State) : (s.resetBegin).probe = { s.probe with run := none } := rfl

@[simp] theorem State.resetBegin_comp (s : State) : (s.resetBegin).comp = s.comp := rfl

@[simp] theorem State.resetBegin_tracks (s : State) : (s.resetBegin).tracks = s.tracks := rfl

@[simp] theorem State.resetBegin_table (s : State) : (s.resetBegin).table = s.table := rfl

@[simp] theorem State.resetBegin_trav (s : State) : (s.resetBegin).trav = { s.trav with ctl := .idle } := rfl

@[simp] theorem State.resetBegin_eng (s : State) :
    (s.resetBegin).eng = { s.eng with occ := none, latches := [], pulse := none } := rfl

@[simp] theorem State.resetBegin_att (s : State) : (s.resetBegin).att = s.att := rfl

@[simp] theorem State.resetBegin_port (s : State) : (s.resetBegin).port = { s.port with link := .resetting } := rfl

@[simp] theorem State.resetBegin_pending (s : State) : (s.resetBegin).pending = s.pending := rfl

end Sys2Proof.Machine
end

