-- ==== Sys2Proof/Laws/Ops.lean ====
section
/-! SUPPORT. What the shared operations do, each said once: the roundings as floors, the clamps as bounds, the greatest number
that meets a test, the places of a new record and of a label, and the completion of a request, the answer of a history, and the two
checks of an open pulse. -/

namespace Sys2Proof.Machine

/-! ### Roundings and bounds -/

theorem mag_eq_abs (a : Int) : mag a = |a| := by
  unfold mag
  split
  · exact (abs_of_neg ‹_›).symm
  · exact (abs_of_nonneg (not_lt.mp ‹_›)).symm

theorem divDown_eq_floor (a : Int) {b : Int} (hb : 0 < b) : divDown a b = ⌊(a : ℚ) / (b : ℚ)⌋ := by
  lift b to Nat using hb.le
  exact (Rat.floor_intCast_div_natCast a b).symm

theorem divNearest_eq_floor (a : Int) {b : Int} (hb : 0 < b) : divNearest a b = ⌊(a : ℚ) / (b : ℚ) + 1 / 2⌋ := by
  have h : (a : ℚ) / (b : ℚ) + 1 / 2 = ((2 * a + b : Int) : ℚ) / ((2 * b : Int) : ℚ) := by
    have : (b : ℚ) ≠ 0 := by exact_mod_cast hb.ne'
    push_cast
    field_simp
  rw [h, ← divDown_eq_floor _ (by omega)]
  rfl

theorem divAway_nonneg {a b : Int} (ha : 0 ≤ a) : divAway a b = divNearest a b := by
  simp [divAway, divNearest, not_lt.mpr ha]

theorem divAway_neg {a b : Int} (ha : a < 0) : divAway a b = -divNearest (-a) b := by
  simp [divAway, divNearest, ha, mag]

theorem clamp_eq {lo hi : Int} (h : lo ≤ hi) (v : Int) : clamp lo hi v = max lo (min hi v) := by
  unfold clamp
  split
  · omega
  · split <;> omega

theorem clamp_bounds {lo hi : Int} (h : lo ≤ hi) (v : Int) : lo ≤ clamp lo hi v ∧ clamp lo hi v ≤ hi := by
  rw [clamp_eq h]
  omega

theorem satInc_eq {top n : Nat} (h : n ≤ top) : satInc top n = min top (n + 1) := by
  unfold satInc
  split <;> omega

theorem satInc_le (top n : Nat) : satInc top n ≤ top := by
  unfold satInc
  split <;> omega

/-- `greatest` meets the test where its start does, and the next number does not, unless the search has reached its end. -/
theorem greatest_spec (p : Nat → Bool) (bits acc : Nat) (h : p acc = true) :
    p (greatest p bits acc) = true ∧ acc ≤ greatest p bits acc ∧ greatest p bits acc < acc + 2 ^ bits ∧
      (greatest p bits acc + 1 < acc + 2 ^ bits → p (greatest p bits acc + 1) = false) := by
  induction bits generalizing acc with
  | zero => simp [greatest, h]
  | succ n ih =>
    have e : (2 : Nat) ^ (n + 1) = 2 ^ n + 2 ^ n := by ring
    have pos : 0 < 2 ^ n := Nat.two_pow_pos n
    by_cases c : p (acc + 2 ^ n) = true
    · obtain ⟨h1, h2, h3, h4⟩ := ih (acc + 2 ^ n) c
      simp only [greatest, c, if_true]
      exact ⟨h1, by omega, by omega, fun h => h4 (by omega)⟩
    · obtain ⟨h1, h2, h3, h4⟩ := ih acc h
      simp only [greatest, c, Bool.false_eq_true, if_false]
      refine ⟨h1, h2, by omega, fun _ => ?_⟩
      by_cases last : greatest p n acc + 1 < acc + 2 ^ n
      · exact h4 last
      · have : greatest p n acc + 1 = acc + 2 ^ n := by omega
        rw [this]
        simpa using c

/-! ### Phases, rings and histories -/

theorem wrapped_bounds (d : Int) : -2048 ≤ wrapped d ∧ wrapped d ≤ 2047 := by
  unfold wrapped
  omega

/-- An unwrapped difference is congruent to the difference of the phases. -/
theorem wrapped_congr (d : Int) : (wrapped d - d) % 4096 = 0 := by
  unfold wrapped
  omega

theorem pushRing_length {ring : List Int} (h : ring ≠ []) (x : Int) : (pushRing ring x).length = ring.length := by
  have : 0 < ring.length := List.length_pos_iff.mpr h
  simp [pushRing]
  omega

theorem pushHistory_length {h : List HistEntry} (hh : h.length ≤ 33) (e : HistEntry) : (pushHistory h e).length ≤ 33 := by
  unfold pushHistory Config.historyDepth
  by_cases c : h.length < 33
  · simp [c]
  · simp [c]
    omega

/-! ### Channels and records -/

theorem channelOf_eq_some {b : Byte} {c : Fin 4} : channelOf b = some c ↔ b.toNat = c.val := by
  unfold channelOf
  split
  · simp [Fin.ext_iff]
  · have := c.isLt
    simp
    omega

theorem channelOf_eq_none {b : Byte} : channelOf b = none ↔ 4 ≤ b.toNat := by
  unfold channelOf
  split <;> simp <;> omega

/-- A label finds a record exactly when a record of the table has it, where labels are distinct. -/
theorem Table.find_eq_some {t : Table} (h : t.records.Pairwise fun r r' => r.label ≠ r'.label) {l : Nat} {r : LineRec} :
    t.find l = some r ↔ r ∈ t.records ∧ r.label = l := by
  unfold Table.find
  constructor
  · intro hf
    exact ⟨List.mem_of_find?_eq_some hf, by simpa using List.find?_some hf⟩
  · rintro ⟨hm, rfl⟩
    revert h hm
    generalize t.records = rs
    intro h hm
    induction h with
    | nil => cases hm
    | cons ha _ ih =>
      rcases List.mem_cons.mp hm with rfl | hm
      · simp
      · have := ha _ hm
        simp [this, ih hm]

theorem Table.find_eq_none {t : Table} {l : Nat} : t.find l = none ↔ ∀ r ∈ t.records, r.label ≠ l := by
  simp [Table.find]

/-- A record is put in before the first record of a greater N. -/
theorem insertByN_split (r : LineRec) (rs : List LineRec) :
    ∃ before after, insertByN r rs = before ++ r :: after ∧ rs = before ++ after ∧ (∀ x ∈ before, x.n ≤ r.n) ∧
      ∀ x ∈ after.head?, r.n < x.n := by
  induction rs with
  | nil => exact ⟨[], [], rfl, rfl, by simp, by simp⟩
  | cons x xs ih =>
    unfold insertByN
    split
    · exact ⟨[], x :: xs, rfl, rfl, by simp, by simpa using ‹_›⟩
    · obtain ⟨before, after, h1, h2, h3, h4⟩ := ih
      refine ⟨x :: before, after, by simp [h1], by simp [h2], ?_, h4⟩
      intro y hy
      rcases List.mem_cons.mp hy with rfl | hy
      · omega
      · exact h3 y hy

/-! ### The completion of a request -/

theorem complete_of_awaits {i : Instr} {s : State} (h : s.awaits i = true) (f : State → State × Response) :
    complete i f s = .next ((f s).1.respond (f s).2) := by simp [complete, h]

theorem complete_of_not_awaits {i : Instr} {s : State} (h : s.awaits i = false) (f : State → State × Response) :
    complete i f s = .next s := by simp [complete, h]

/-- A completion always answers a next state, and it is one of these two. -/
theorem complete_cases (i : Instr) (s : State) (f : State → State × Response) :
    (s.awaits i = true ∧ complete i f s = .next ((f s).1.respond (f s).2)) ∨
      (s.awaits i = false ∧ complete i f s = .next s) := by
  cases h : s.awaits i
  · exact .inr ⟨rfl, complete_of_not_awaits h f⟩
  · exact .inl ⟨rfl, complete_of_awaits h f⟩

/-- A request is awaited exactly while a frame that carries it is in process. -/
theorem State.awaits_iff {s : State} {i : Instr} :
    s.awaits i = true ↔ ∃ f, s.port.link = .processing f ∧ completionOf f = i := by
  unfold State.awaits
  split <;> simp_all

/-- What a request awaited means for the part: RSTN and the soft reset leave no request in process. -/
theorem State.not_resetting_of_awaits {s : State} {i : Instr} (h : s.awaits i = true) : s.port.link ≠ .resetting := by
  obtain ⟨f, hf, -⟩ := State.awaits_iff.mp h
  simp [hf]

/-! ### The history, the filter and an open pulse (R15, R109, R118) -/

/-- A history answers with the entry it holds. -/
theorem Channel.ask_held {ch : Channel} {k : Nat} {e : HistEntry} (h : ch.entry k = some e) : ch.ask k = .held e := by
  simp [Channel.ask, h]

/-- A history that holds no entry answers by whether the sample may still be counted. -/
theorem Channel.ask_not_held {ch : Channel} {k : Nat} (h : ch.entry k = none) :
    ch.ask k = if ch.countsFrom ≤ k then .notYet else .notHeld := by
  simp [Channel.ask, h]

/-- The samples that a channel may count next: the one after the latest within a run, and at its start any that it has not
counted. -/
theorem Channel.mayCount_iff {ch : Channel} {k : Nat} :
    ch.mayCount k = true ↔ ch.state ≠ .off ∧
      ((ch.first = none ∧ ch.next ≤ k) ∨ ∃ first, ch.first = some first ∧ k = ch.next) := by
  unfold Channel.mayCount
  cases ch.first <;> simp

/-- A sample of a run is one that follows its first. -/
theorem Channel.inRun_iff {ch : Channel} {k : Nat} : ch.inRun k = true ↔ ∃ first, ch.first = some first ∧ first ≤ k := by
  unfold Channel.inRun
  cases ch.first <;> simp

/-- The real-time track takes its newest sample, or stays as it is; nothing else changes. -/
theorem State.formRealTime_cases (s : State) :
    s.formRealTime = s ∨
      ((s.measure.state ≠ .off ∧ s.tracks.rtCount < s.countedBoth ∧ s.measure.inRun (s.countedBoth - 1) = true) ∧
        s.formRealTime = { s with tracks := { s.tracks with
          rt := some (s.trackPosition (s.countedBoth - 1))
          rtCount := s.countedBoth } }) := by
  unfold State.formRealTime
  split
  · next h => exact .inr ⟨h, rfl⟩
  · exact .inl rfl

/-- A level change is governed by the F held or by the one before it. -/
theorem Engine.filterAt_cases (e : Engine) (t : Nat) :
    ((t : Int) ≤ e.filterClock ∧ e.filterAt t = e.priorFilter) ∨ (e.filterClock < t ∧ e.filterAt t = e.filter) := by
  unfold Engine.filterAt
  split <;> omega

/-- The width check changes nothing or discards the pulse with WIDTH. -/
theorem State.checkWidth_cases (s : State) (p : Int) : s.checkWidth p = s ∨ s.checkWidth p = s.discardPulse .width := by
  unfold State.checkWidth
  split <;> (try split) <;> simp

/-- The soundness check changes nothing or discards the pulse, with COAST or INTERRUPTED. -/
theorem State.checkSound_cases (s : State) (j : Nat) :
    s.checkSound j = s ∨ s.checkSound j = s.discardPulse .coast ∨ s.checkSound j = s.discardPulse .interrupted := by
  have hr : entriesReason (s.entriesAt j) = .coast ∨ entriesReason (s.entriesAt j) = .interrupted := by
    unfold entriesReason
    split <;> simp
  unfold State.checkSound
  cases s.eng.pulse with
  | none => exact .inl rfl
  | some op =>
    dsimp only
    cases allEntries (if op.forHome then HistEntry.tracks else HistEntry.sound) (s.entriesAt j) with
    | true => exact .inl rfl
    | false => exact .inr (hr.imp (fun h => by rw [h]; rfl) fun h => by rw [h]; rfl)

end Sys2Proof.Machine
end

