-- ==== Sys2Proof/Laws/Pass.lean ====
section
/-! SUPPORT. What a raising and a pass end can do (R104, R105, R149, R150): the parts of State that they never touch, and the
cases of each. -/

namespace Sys2Proof.Machine

/-! ### Frames -/

@[simp] theorem State.spoil_rstnLow (s : State) (reason : Reject) : (s.spoil reason).rstnLow = s.rstnLow := by
  unfold State.spoil; split <;> (try split) <;> rfl

@[simp] theorem State.spoil_conversions (s : State) (reason : Reject) : (s.spoil reason).conversions = s.conversions := by
  unfold State.spoil; split <;> (try split) <;> rfl

@[simp] theorem State.spoil_chans (s : State) (reason : Reject) : (s.spoil reason).chans = s.chans := by
  unfold State.spoil; split <;> (try split) <;> rfl

@[simp] theorem State.spoil_probe (s : State) (reason : Reject) : (s.spoil reason).probe = s.probe := by
  unfold State.spoil; split <;> (try split) <;> rfl

@[simp] theorem State.spoil_tracks (s : State) (reason : Reject) : (s.spoil reason).tracks = s.tracks := by
  unfold State.spoil; split <;> (try split) <;> rfl

@[simp] theorem State.spoil_port (s : State) (reason : Reject) : (s.spoil reason).port = s.port := by
  unfold State.spoil; split <;> (try split) <;> rfl

@[simp] theorem State.spoil_pending (s : State) (reason : Reject) : (s.spoil reason).pending = s.pending := by
  unfold State.spoil; split <;> (try split) <;> rfl

@[simp] theorem State.spoil_comp (s : State) (reason : Reject) : (s.spoil reason).comp = s.comp := by
  unfold State.spoil; split <;> (try split) <;> rfl

@[simp] theorem State.spoil_table (s : State) (reason : Reject) : (s.spoil reason).table = s.table := by
  unfold State.spoil; split <;> (try split) <;> rfl

@[simp] theorem State.spoil_trav (s : State) (reason : Reject) : (s.spoil reason).trav = s.trav := by
  unfold State.spoil; split <;> (try split) <;> rfl

@[simp] theorem State.spoil_att (s : State) (reason : Reject) : (s.spoil reason).att = s.att := by
  unfold State.spoil; split <;> (try split) <;> rfl

@[simp] theorem State.dropPulse_rstnLow (s : State) (reason : Reject) : (s.dropPulse reason).rstnLow = s.rstnLow := by
  unfold State.dropPulse; split <;> simp

@[simp] theorem State.dropPulse_conversions (s : State) (reason : Reject) :
    (s.dropPulse reason).conversions = s.conversions := by
  unfold State.dropPulse; split <;> simp

@[simp] theorem State.dropPulse_chans (s : State) (reason : Reject) : (s.dropPulse reason).chans = s.chans := by
  unfold State.dropPulse; split <;> simp

@[simp] theorem State.dropPulse_probe (s : State) (reason : Reject) : (s.dropPulse reason).probe = s.probe := by
  unfold State.dropPulse; split <;> simp

@[simp] theorem State.dropPulse_tracks (s : State) (reason : Reject) : (s.dropPulse reason).tracks = s.tracks := by
  unfold State.dropPulse; split <;> simp

@[simp] theorem State.dropPulse_port (s : State) (reason : Reject) : (s.dropPulse reason).port = s.port := by
  unfold State.dropPulse; split <;> simp

@[simp] theorem State.dropPulse_pending (s : State) (reason : Reject) : (s.dropPulse reason).pending = s.pending := by
  unfold State.dropPulse; split <;> simp

@[simp] theorem State.dropPulse_comp (s : State) (reason : Reject) : (s.dropPulse reason).comp = s.comp := by
  unfold State.dropPulse; split <;> simp

@[simp] theorem State.dropPulse_table (s : State) (reason : Reject) : (s.dropPulse reason).table = s.table := by
  unfold State.dropPulse; split <;> simp

@[simp] theorem State.dropPulse_trav (s : State) (reason : Reject) : (s.dropPulse reason).trav = s.trav := by
  unfold State.dropPulse; split <;> simp

@[simp] theorem State.dropPulse_att (s : State) (reason : Reject) : (s.dropPulse reason).att = s.att := by
  unfold State.dropPulse; split <;> simp

@[simp] theorem State.closeOccupancy_rstnLow (s : State) (kind : EndKind) : (s.closeOccupancy kind).rstnLow = s.rstnLow := by
  unfold State.closeOccupancy; split <;> simp

@[simp] theorem State.closeOccupancy_conversions (s : State) (kind : EndKind) :
    (s.closeOccupancy kind).conversions = s.conversions := by
  unfold State.closeOccupancy; split <;> simp

@[simp] theorem State.closeOccupancy_chans (s : State) (kind : EndKind) : (s.closeOccupancy kind).chans = s.chans := by
  unfold State.closeOccupancy; split <;> simp

@[simp] theorem State.closeOccupancy_probe (s : State) (kind : EndKind) : (s.closeOccupancy kind).probe = s.probe := by
  unfold State.closeOccupancy; split <;> simp

@[simp] theorem State.closeOccupancy_tracks (s : State) (kind : EndKind) : (s.closeOccupancy kind).tracks = s.tracks := by
  unfold State.closeOccupancy; split <;> simp

@[simp] theorem State.closeOccupancy_port (s : State) (kind : EndKind) : (s.closeOccupancy kind).port = s.port := by
  unfold State.closeOccupancy; split <;> simp

@[simp] theorem State.closeOccupancy_pending (s : State) (kind : EndKind) : (s.closeOccupancy kind).pending = s.pending := by
  unfold State.closeOccupancy; split <;> simp

@[simp] theorem State.closeOccupancy_comp (s : State) (kind : EndKind) : (s.closeOccupancy kind).comp = s.comp := by
  unfold State.closeOccupancy; split <;> simp

@[simp] theorem State.closeOccupancy_trav (s : State) (kind : EndKind) : (s.closeOccupancy kind).trav = s.trav := by
  unfold State.closeOccupancy; split <;> simp

@[simp] theorem State.applyValues_rstnLow (s : State) (nu : Int) (t : Option Int) :
    (s.applyValues nu t).rstnLow = s.rstnLow := by
  unfold State.applyValues; dsimp only; split <;> simp

@[simp] theorem State.applyValues_conversions (s : State) (nu : Int) (t : Option Int) :
    (s.applyValues nu t).conversions = s.conversions := by
  unfold State.applyValues; dsimp only; split <;> simp

@[simp] theorem State.applyValues_chans (s : State) (nu : Int) (t : Option Int) : (s.applyValues nu t).chans = s.chans := by
  unfold State.applyValues; dsimp only; split <;> simp

@[simp] theorem State.applyValues_probe (s : State) (nu : Int) (t : Option Int) : (s.applyValues nu t).probe = s.probe := by
  unfold State.applyValues; dsimp only; split <;> simp

@[simp] theorem State.applyValues_tracks (s : State) (nu : Int) (t : Option Int) :
    (s.applyValues nu t).tracks = s.tracks := by
  unfold State.applyValues; dsimp only; split <;> simp

@[simp] theorem State.applyValues_port (s : State) (nu : Int) (t : Option Int) : (s.applyValues nu t).port = s.port := by
  unfold State.applyValues; dsimp only; split <;> simp

@[simp] theorem State.applyValues_pending (s : State) (nu : Int) (t : Option Int) :
    (s.applyValues nu t).pending = s.pending := by
  unfold State.applyValues; dsimp only; split <;> simp

@[simp] theorem State.applyValues_table (s : State) (nu : Int) (t : Option Int) : (s.applyValues nu t).table = s.table := by
  unfold State.applyValues; dsimp only; split <;> simp

@[simp] theorem State.applyValues_eng (s : State) (nu : Int) (t : Option Int) : (s.applyValues nu t).eng = s.eng := by
  unfold State.applyValues; dsimp only; split <;> simp

@[simp] theorem State.applyValues_att (s : State) (nu : Int) (t : Option Int) : (s.applyValues nu t).att = s.att := by
  unfold State.applyValues; dsimp only; split <;> simp

@[simp] theorem State.passHoldStep_rstnLow (s : State) : (s.passHoldStep).rstnLow = s.rstnLow := by
  unfold State.passHoldStep; split <;> simp

@[simp] theorem State.passHoldStep_conversions (s : State) : (s.passHoldStep).conversions = s.conversions := by
  unfold State.passHoldStep; split <;> simp

@[simp] theorem State.passHoldStep_chans (s : State) : (s.passHoldStep).chans = s.chans := by
  unfold State.passHoldStep; split <;> simp

@[simp] theorem State.passHoldStep_probe (s : State) : (s.passHoldStep).probe = s.probe := by
  unfold State.passHoldStep; split <;> simp

@[simp] theorem State.passHoldStep_tracks (s : State) : (s.passHoldStep).tracks = s.tracks := by
  unfold State.passHoldStep; split <;> simp

@[simp] theorem State.passHoldStep_port (s : State) : (s.passHoldStep).port = s.port := by
  unfold State.passHoldStep; split <;> simp

@[simp] theorem State.passHoldStep_pending (s : State) : (s.passHoldStep).pending = s.pending := by
  unfold State.passHoldStep; split <;> simp

@[simp] theorem State.passHoldStep_table (s : State) : (s.passHoldStep).table = s.table := by
  unfold State.passHoldStep; split <;> simp

@[simp] theorem State.passHoldStep_eng (s : State) : (s.passHoldStep).eng = s.eng := by
  unfold State.passHoldStep; split <;> simp

@[simp] theorem State.passHoldStep_att (s : State) : (s.passHoldStep).att = s.att := by
  unfold State.passHoldStep; split <;> simp

@[simp] theorem State.accountPlan_rstnLow (s : State) (kind : EndKind) (inStop : Bool) :
    (s.accountPlan kind inStop).rstnLow = s.rstnLow := by
  unfold State.accountPlan; dsimp only; split <;> (try split) <;> simp

@[simp] theorem State.accountPlan_conversions (s : State) (kind : EndKind) (inStop : Bool) :
    (s.accountPlan kind inStop).conversions = s.conversions := by
  unfold State.accountPlan; dsimp only; split <;> (try split) <;> simp

@[simp] theorem State.accountPlan_chans (s : State) (kind : EndKind) (inStop : Bool) :
    (s.accountPlan kind inStop).chans = s.chans := by
  unfold State.accountPlan; dsimp only; split <;> (try split) <;> simp

@[simp] theorem State.accountPlan_probe (s : State) (kind : EndKind) (inStop : Bool) :
    (s.accountPlan kind inStop).probe = s.probe := by
  unfold State.accountPlan; dsimp only; split <;> (try split) <;> simp

@[simp] theorem State.accountPlan_tracks (s : State) (kind : EndKind) (inStop : Bool) :
    (s.accountPlan kind inStop).tracks = s.tracks := by
  unfold State.accountPlan; dsimp only; split <;> (try split) <;> simp

@[simp] theorem State.accountPlan_port (s : State) (kind : EndKind) (inStop : Bool) :
    (s.accountPlan kind inStop).port = s.port := by
  unfold State.accountPlan; dsimp only; split <;> (try split) <;> simp

@[simp] theorem State.accountPlan_pending (s : State) (kind : EndKind) (inStop : Bool) :
    (s.accountPlan kind inStop).pending = s.pending := by
  unfold State.accountPlan; dsimp only; split <;> (try split) <;> simp

@[simp] theorem State.accountPlan_comp (s : State) (kind : EndKind) (inStop : Bool) :
    (s.accountPlan kind inStop).comp = s.comp := by
  unfold State.accountPlan; dsimp only; split <;> (try split) <;> simp

@[simp] theorem State.accountPlan_table (s : State) (kind : EndKind) (inStop : Bool) :
    (s.accountPlan kind inStop).table = s.table := by
  unfold State.accountPlan; dsimp only; split <;> (try split) <;> simp

@[simp] theorem State.accountPlan_eng (s : State) (kind : EndKind) (inStop : Bool) :
    (s.accountPlan kind inStop).eng = s.eng := by
  unfold State.accountPlan; dsimp only; split <;> (try split) <;> simp

@[simp] theorem State.endPass_rstnLow (s : State) (kind : EndKind) (inStop : Bool) :
    (s.endPass kind inStop).rstnLow = s.rstnLow := by
  unfold State.endPass; split <;> simp

@[simp] theorem State.endPass_conversions (s : State) (kind : EndKind) (inStop : Bool) :
    (s.endPass kind inStop).conversions = s.conversions := by
  unfold State.endPass; split <;> simp

@[simp] theorem State.endPass_chans (s : State) (kind : EndKind) (inStop : Bool) :
    (s.endPass kind inStop).chans = s.chans := by
  unfold State.endPass; split <;> simp

@[simp] theorem State.endPass_probe (s : State) (kind : EndKind) (inStop : Bool) :
    (s.endPass kind inStop).probe = s.probe := by
  unfold State.endPass; split <;> simp

@[simp] theorem State.endPass_tracks (s : State) (kind : EndKind) (inStop : Bool) :
    (s.endPass kind inStop).tracks = s.tracks := by
  unfold State.endPass; split <;> simp

@[simp] theorem State.endPass_port (s : State) (kind : EndKind) (inStop : Bool) : (s.endPass kind inStop).port = s.port := by
  unfold State.endPass; split <;> simp

@[simp] theorem State.endPass_pending (s : State) (kind : EndKind) (inStop : Bool) :
    (s.endPass kind inStop).pending = s.pending := by
  unfold State.endPass; split <;> simp

@[simp] theorem State.raise_rstnLow (s : State) (d : Detail) : (s.raise d).rstnLow = s.rstnLow := by
  unfold State.raise; split <;> simp

@[simp] theorem State.raise_conversions (s : State) (d : Detail) : (s.raise d).conversions = s.conversions := by
  unfold State.raise; split <;> simp

@[simp] theorem State.raise_chans (s : State) (d : Detail) : (s.raise d).chans = s.chans := by
  unfold State.raise; split <;> simp

@[simp] theorem State.raise_probe (s : State) (d : Detail) : (s.raise d).probe = s.probe := by
  unfold State.raise; split <;> simp

@[simp] theorem State.raise_tracks (s : State) (d : Detail) : (s.raise d).tracks = s.tracks := by
  unfold State.raise; split <;> simp

@[simp] theorem State.raise_port (s : State) (d : Detail) : (s.raise d).port = s.port := by
  unfold State.raise; split <;> simp

@[simp] theorem State.raise_pending (s : State) (d : Detail) : (s.raise d).pending = s.pending := by
  unfold State.raise; split <;> simp

/-! ### Cases -/

theorem State.running_iff (s : State) : s.running = true ↔ s.trav.ctl = .running := by simp [State.running]

/-- Without a running pass nothing ends (R104). -/
theorem State.endPass_of_not_running {s : State} (h : s.trav.ctl ≠ .running) (kind : EndKind) (inStop : Bool) :
    s.endPass kind inStop = s := by simp [State.endPass, State.running, h]

/-- A raising that breaks nothing is the attention unit's note alone (R150). -/
theorem State.raise_eq_note {s : State} {d : Detail}
    (h : (s.source d.source).action = .none ∨ s.trav.ctl ≠ .running) : s.raise d = s.note d := by
  unfold State.raise
  split
  · exact State.endPass_of_not_running (by simpa using h.resolve_left ‹_›) _ _
  · rfl

/-- A raising is a note, and a BROKEN end after it where the action breaks a running pass (R149, R150). -/
theorem State.raise_cases (s : State) (d : Detail) :
    s.raise d = s.note d ∨
      (s.raise d = (s.note d).endPass .broken false ∧ (s.source d.source).action ≠ .none ∧ s.trav.ctl = .running) := by
  by_cases h : (s.source d.source).action = .none ∨ s.trav.ctl ≠ .running
  · exact .inl (State.raise_eq_note h)
  · simp only [not_or, ne_eq, not_not] at h
    exact .inr ⟨by simp [State.raise, h.1], h⟩

/-- The engine after an occupancy is spoiled: only the outcome may change. -/
theorem State.spoil_eng (s : State) (reason : Reject) :
    (s.spoil reason).eng = { s.eng with occ := (s.spoil reason).eng.occ } := by
  unfold State.spoil; split
  · rfl
  · split <;> rfl

/-- A pass end leaves no occupancy and no open pulse (R105, R118). -/
@[simp] theorem State.closeOccupancy_eng (s : State) (kind : EndKind) :
    (s.closeOccupancy kind).eng = { s.eng with occ := none } := by
  unfold State.closeOccupancy
  split
  · next h => cases e : s.eng; simp_all
  · simp

theorem State.endPass_eng {s : State} (h : s.trav.ctl = .running) (kind : EndKind) (inStop : Bool) :
    (s.endPass kind inStop).eng = { s.eng with occ := none, pulse := none } := by
  simp only [State.endPass, State.running, h, decide_true, if_true, State.note_eng, State.accountPlan_eng,
    State.passHoldStep_eng, State.closeOccupancy_eng]
  unfold State.dropPulse
  split
  · next e => simp_all
  · rw [State.spoil_eng]; simp

/-- A pass that ended is out of RUNNING (R105 step 1). -/
theorem State.endPass_not_running (s : State) (kind : EndKind) (inStop : Bool) :
    (s.endPass kind inStop).trav.ctl ≠ .running := by
  by_cases h : s.trav.ctl = .running
  · simp only [State.endPass, State.running, h, decide_true, if_true, State.note_trav]
    have hp : ∀ u : State, u.passHoldStep.trav.ctl = u.trav.ctl := by
      intro u; unfold State.passHoldStep State.applyValues; dsimp only
      split
      · split <;> simp
      · rfl
    unfold State.accountPlan; dsimp only
    split
    · split <;> simp [hp]
    · simp [hp]
  · rw [State.endPass_of_not_running h]; exact h

end Sys2Proof.Machine
end

