-- ==== Sys2Proof/Tests/Slice0.lean ====
section
/-! SUPPORT. The model's own tests: ill-formed terms refused, the worked cases of spec/ (named at each test), one or two small
checks per command, and for each statement with hypotheses a state and operands that meet them. -/

namespace Sys2Proof.Tests

set_option Elab.async false

open Sys2Proof.Machine

/-! ### Small states -/

/-- What is seen of the next state; none where a step gives none. -/
def see {α : Type} (o : Host.Outcome State Fault Refusal) (f : State → α) : Option α :=
  match o with
  | .next t => some (f t)
  | .fault _ => none
  | .refused _ => none

/-- After reset, with the port on its footing and conversions 0 to 999 issued. -/
def base : State := { State.reset with port := ⟨true, .empty, []⟩, conversions := 1000 }

/-- A state in which the frame of request `i` is in process. -/
def inProcess (i : Instr) (s : State) : State :=
  match encodeFrame i with
  | some f => { s with port := { s.port with link := .processing f } }
  | none => s

/-- A command run on a state in which it is in process. -/
def ask (i : Instr) (s : State) : Host.Outcome State Fault Refusal := exec i (inProcess i s)

/-- The response held. -/
def answerOf (s : State) : Option Response :=
  match s.port.link with
  | .holding r => some r
  | .empty => none
  | .processing _ => none
  | .resetting => none

/-- A channel counting before sample 100: TRACKING and referenced, synthetic, at the count and the phase given. -/
def counting (ch : Channel) (q phi step : Int) : Channel :=
  { ch with
    state := .tracking, referenced := true, source := .synth, q := q, phiOld := phi, synPhase := phi, step := step
    ring := List.replicate 16 240, first := some 0, next := 100
    history := [⟨98, q, .tracking, true⟩, ⟨99, q, .tracking, true⟩] }

/-- FC0 counting. -/
def counted (q phi step : Int) : State := base.setChan 0 (counting (base.chan 0) q phi step)

/-- Sample 100 of FC0: its bits matter only under source PORT. -/
def sample100 : SampleIn := ⟨0, 100, 0, 0, false⟩

/-- Record 20 of the worked table (spec/04, 4.7). -/
def record20 : LineRec :=
  ⟨20, 10000000000, 2000000, 3, 3, .armed, .empty, .empty, none, 0, .zero⟩

/-- Record 10 of the worked table: window [-2,000,000, 2,000,000]. -/
def record10 : LineRec := ⟨10, 0, 2000000, 3, 3, .armed, .empty, .empty, none, 0, .zero⟩

/-- A table of the two records. -/
def tabled : State := { base with table := ⟨[record10, record20], -(2 ^ 47 - 1), false⟩ }

/-- A forward pass RUNNING over the table, pass number 7. -/
def inPass : State :=
  { tabled with trav := { tabled.trav with ctl := .running, counted := true, remaining := 2, passNo := 7, dir := some .fwd } }

/-- The pass with record 20 occupied from the low side, at the outcome given. -/
def occupying (x : OccOutcome) : State :=
  { inPass with eng := { inPass.eng with occ := some ⟨20, .low, .fwd, x, none⟩ } }

/-! ### Form: terms that stand for no command -/

theorem test_emptyTransaction_of_eight_bits_is_refused : (Instr.emptyTransaction 8).wellFormed = false := by decide +kernel

theorem test_requestFrame_without_bytes_is_refused : (Instr.requestFrame [] 0).wellFormed = false := by decide +kernel

theorem test_requestFrame_from_zero_is_refused : (Instr.requestFrame [0x00#8, 0x01#8] 0).wellFormed = false := by decide +kernel

theorem test_requestFrame_tail_of_eight_is_refused : (Instr.requestFrame [0x2A#8] 8).wellFormed = false := by decide +kernel

theorem test_setAttention_needs_sixteen_levels :
    (Instr.setAttention ⟨none, List.replicate 15 none, List.replicate 16 none, 0⟩).wellFormed = false := by decide +kernel

theorem test_setAttention_needs_sixteen_actions :
    (Instr.setAttention ⟨none, List.replicate 16 none, List.replicate 17 none, 0⟩).wellFormed = false := by decide +kernel

/-! ### The link (spec/09, 9.9; spec/10, 10.7) -/

theorem test_crc_of_read_traverse : crc [0x2A#8, 0x00#8] = 0x8A#8 := by decide +kernel

theorem test_crc_of_not_ready : crc [0x02#8, 0x00#8] = 0x45#8 := by decide +kernel

theorem test_crc_of_ok : crc [0x00#8, 0x00#8] = 0xB8#8 := by decide +kernel

theorem test_read_traverse_frame : completionOf (frameOf [0x2A#8, 0x00#8, 0x8A#8] 0) = .readTraverse := by decide +kernel

/-- The insert of record 20, byte for byte (spec/10, 10.7). -/
theorem test_insert_payload :
    parsePayload 0x18#8 [0x14#8, 0x00#8, 0x00#8, 0xE4#8, 0x0B#8, 0x54#8, 0x02#8, 0x00#8, 0x80#8, 0x84#8, 0x1E#8, 0x00#8,
      0x03#8, 0x00#8, 0x03#8, 0x00#8, 0x00#8] =
    .request (.insertRecord ⟨20#16, 10000000000#48, 2000000#32, 3#16, 3#16, 0#8⟩) := by decide +kernel

/-- A CHANGE_RECORD that raises only quota B to 5 (spec/10, 10.7). -/
theorem test_change_payload :
    encodePayload (.changeRecord ⟨20#16, none, none, none, some 5#16, 0#4⟩) =
      some (0x19#8, [0x14#8, 0x00#8, 0x08#8, 0x05#8, 0x00#8]) := by decide +kernel

/-- SET_CHANNEL with a step alone: channel 1, flag bit 6, the step -2 (spec/10, R179). -/
theorem test_set_channel_payload :
    parsePayload 0x01#8 [0x01#8, 0x40#8, 0xFE#8, 0xFF#8] =
      .request (.setChannel ⟨1#8, none, none, none, none, none, none, some 0xFFFE#16, 0#1⟩) := by decide +kernel

/-- ANCHOR_TRACKER with an index, PRESET, and ACKNOWLEDGE (spec/10, R180). -/
theorem test_other_payloads :
    parsePayload 0x15#8 [0x01#8, 0xDC#8, 0x20#8, 0x04#8, 0x00#8] = .request (.anchorTracker (some 270556#32) 0#7) ∧
    parsePayload 0x12#8 [0x02#8, 0xFF#8, 0xFF#8, 0xFF#8, 0xFF#8, 0xFF#8, 0xFF#8] =
      .request (.preset 2#8 0xFFFFFFFFFFFF#48) ∧
    parsePayload 0x2D#8 [0x01#8, 0x80#8] = .request (.acknowledge 0x8001#16) := by decide +kernel

/-- A deviation of -1,109,753 pm in four bytes (spec/10, 10.7). -/
theorem test_negative_field : sField 4 (-1109753) = [0x07#8, 0x11#8, 0xEF#8, 0xFF#8] := by decide +kernel

/-! ### Arithmetic (spec/01, 1.11; spec/03, 3.9 and 3.11; spec/07, 7.6) -/

/-- The worked sample (spec/01, 1.11). -/
theorem test_worked_sample :
    portPoint ⟨100, -50, 36045, 0, 0⟩ 0 ⟨1, 0, 3000#14, BitVec.ofInt 14 (-2000), false⟩ =
      ⟨-2048, 2900, 1425, 3550, false⟩ := by decide +kernel

theorem test_unwrap_through_zero : wrapped (150 - 4000) = 246 := by decide +kernel

theorem test_length_factor : lengthFactor 632991212 4 0 = 20741856035 := by decide +kernel

theorem test_environment_index : envIndex 784049 380 ⟨some 20000, none, some 101325, some 1170⟩ = 270556 := by decide +kernel

theorem test_tracker_index : trackerIndex ⟨270556, 1000000⟩ 1003000 632991212 2 500000 = 271020 := by decide +kernel

/-- The registered position of 3.11: E = 2,070,452,460, α = 8,000 and an applied scale temperature of 20,350. -/
theorem test_registered_position :
    { base with comp := { base.comp with alpha := 8000, tApplied := some 20350 } }.position 2070452460 0 = 9998890247 := by
  decide +kernel

/-- The statistics of 7.6. -/
theorem test_statistics :
    (⟨3, -3329243, 3694619655109, some ⟨-1109790, -1109700⟩⟩ : Acc).mean = some (-1109748) ∧
    (⟨2, -2218300, 2460427450000, some ⟨-1109200, -1109100⟩⟩ : Acc).mean = some (-1109150) ∧
    (⟨3, -3329243, 3694619655109, some ⟨-1109790, -1109700⟩⟩ : Acc).deviation = some 45 ∧
    (⟨2, -2218300, 2460427450000, some ⟨-1109200, -1109100⟩⟩ : Acc).deviation = some 70 ∧
    (⟨2, -7, 25, some ⟨-4, -3⟩⟩ : Acc).mean = some (-4) ∧ (⟨2, -7, 25, some ⟨-4, -3⟩⟩ : Acc).deviation = some 0 := by decide +kernel

/-! ### Clock, resets and samples -/

theorem test_powerOn : see (exec .powerOn inPass) (fun t => (t.table.records.length, t.trav.ctl, t.conversions)) =
    some (0, .idle, 0) := by decide +kernel

theorem test_rstnAssert : see (exec .rstnAssert inPass) (fun t => (t.rstnLow, t.table.records.length, t.rdy)) =
    some (true, 0, true) := by decide +kernel

theorem test_rstnRelease : see (exec .rstnRelease { State.reset with rstnLow := true }) (fun t => t) = some State.reset := by
  decide +kernel

theorem test_conversion : see (exec .conversion base) (fun t => t.conversions) = some 1001 := by decide +kernel

/-- Sample k of the worked overspeed (spec/01, 1.12). -/
theorem test_sample_is_counted : see (exec (.sampleCounted sample100) (counted 1000000 4000 246)) (fun t =>
      let c := t.chan 0
      (c.q, c.phiOld, c.v16, c.state, c.next)) = some (1000246, 150, 3846, .tracking, 101) := by decide +kernel

/-- Sample k+2 of the worked overspeed: LOST with OVERSPEED, the count frozen, LOST0 raised (spec/01, 1.12). -/
theorem test_overspeed_loses : see (exec (.sampleCounted sample100) (counted 1000496 400 1300)) (fun t =>
      let c := t.chan 0
      ((c.q, c.phiOld, c.v16), (c.state, c.referenced, (t.source 0).raised))) =
    some ((1000496, 1700, 3600), (.lost, false, some ⟨1, .lost 0 .overspeed⟩)) := by decide +kernel

/-- FC0 in the coast of spec/02, 2.7, before its check sample, with the phase of that sample given. -/
def coasting (phi : Int) : State :=
  base.setChan 0 { counting (base.chan 0) 5001443 phi 0 with
    state := .coasting ⟨5000000, 3850, 1000, 6, 3⟩, mon := { (base.chan 0).mon with nr := 4, nd := 3 } }

/-- The check sample of 2.7: j = 7, Q_x = 5,001,684, d = 18, bridged, and BRIDGE raised as the length reaches Nd. -/
theorem test_bridge : see (exec (.bridgeCheck sample100) (coasting 2702)) (fun t =>
      let c := t.chan 0
      (c.q, c.state, c.phiOld, c.referenced, (t.source 4).raised)) =
    some (5001702, .tracking, 2702, true, some ⟨1, .bridge 0 18⟩) := by decide +kernel

/-- The same check with d beyond the tolerance of 512: SLIP, and the count of the last coast sample stays. -/
theorem test_slip : see (exec (.bridgeCheck sample100) (coasting 3197)) (fun t =>
      let c := t.chan 0
      (c.q, c.state, c.loss)) = some (5001443, .lost, .slip) := by decide +kernel

/-- A coast of 5000 samples, with a dark sample to come. -/
def longCoast : State :=
  base.setChan 0 { counting (base.chan 0) 7 11 0 with source := .port, state := .coasting ⟨0, 0, 11, 5000, 0⟩ }

theorem test_coast_times_out : see (exec (.coastTimeout sample100) longCoast) (fun t =>
      let c := t.chan 0
      (c.q, c.state, c.loss, (t.source 0).raised)) = some (7, .lost, .dropout, some ⟨1, .lost 0 .dropout⟩) := by
  decide +kernel

/-- One sample short of the limit, the same event does not come about, and a sample goes on with the coast. -/
theorem test_coast_goes_on :
    see (exec (.coastTimeout sample100)
      (longCoast.setChan 0 { longCoast.chan 0 with state := .coasting ⟨0, 0, 11, 4999, 0⟩ })) (fun t => (t.chan 0).next) =
      some 100 ∧
    see (exec (.sampleCounted sample100)
      (longCoast.setChan 0 { longCoast.chan 0 with state := .coasting ⟨0, 0, 11, 4999, 0⟩ })) (fun t => (t.chan 0).state) =
      some (.coasting ⟨0, 0, 11, 5000, 0⟩) := by decide +kernel

/-- A settling channel one strong sample before T_settle × 10,000. -/
def settling : State :=
  base.setChan 0 { counting (base.chan 0) 40 100 5 with state := .settling, referenced := false, settleRun := 199999 }

theorem test_settle_completes : see (exec (.settleComplete sample100) settling) (fun t =>
      let c := t.chan 0
      (c.q, c.state, c.settleRun)) = some (45, .tracking, 0) := by decide +kernel

/-- The eighth over sample, by its over-range level. -/
def oversampled : State :=
  base.setChan 0 { counting (base.chan 0) 0 0 0 with source := .port, overRun := 7 }

theorem test_saturation_sets :
    see (exec (.saturationSet ⟨0, 100, 0, 8000, true⟩) oversampled) (fun t =>
      ((t.chan 0).sat, (t.chan 0).overRun, (t.source 5).raised)) = some (true, 0, some ⟨1, .saturate 0⟩) := by decide +kernel

/-- The sixteenth calm sample. -/
def calming : State := base.setChan 0 { counting (base.chan 0) 0 0 0 with sat := true, calmRun := 15 }

theorem test_saturation_clears : see (exec (.saturationClear sample100) calming) (fun t =>
      ((t.chan 0).sat, (t.chan 0).calmRun, (t.source 5).raised)) = some (false, 0, none) := by decide +kernel

/-- A probe run one sample short of its 256. -/
def probing : State :=
  { counted 0 0 0 with probe := ⟨some ⟨0, 8, 255, some ⟨16384, 16384, 0, 0, 16384, 16384⟩, 255 * 16384⟩, none⟩ }

theorem test_probe_completes : see (exec (.probeComplete sample100) probing) (fun t => (t.probe, (t.source 14).raised)) =
    some (⟨none, some ⟨0, 8, false, 256, some ⟨16384, 16384, 0, 0, 16384, 16384⟩, some 16384⟩⟩,
      some ⟨1, .probeDone 0 false⟩) := by decide +kernel

/-! ### Updates (spec/03, 3.9 and 3.10) -/

/-- The environment record of 3.9 under the source ENVIRONMENT. -/
def aired (age : Nat) : State :=
  { base with comp := { base.comp with
    source := .environment, env := ⟨some 20000, none, some 101325, some 1170⟩, age := age, fresh := true } }

theorem test_update_from_environment : see (exec .update (aired 0)) (fun t =>
      (t.comp.age, t.comp.fresh, t.comp.nuTarget, t.comp.nuApplied, t.comp.stale)) =
    some (1, true, 270556, 270556, false) := by decide +kernel

/-- The tracker of 3.10, slewing by 10 from 270,300. -/
theorem test_update_from_tracker : see (exec .update
      { base.setChan 2 { counting (base.chan 2) 1003000 0 0 with role := .tracker, passK := 2 } with
        comp := { base.comp with
          source := .tracker, lt := 500000, policy := .slew, anchor := some ⟨270556, 1000000⟩, nuApplied := 270300 } })
      (fun t => (t.comp.nuTarget, t.comp.nuApplied)) = some (271020, 270310) := by decide +kernel

/-- The update after the age of 30,000: the target is held and ENV_STALE raised with 30,001. -/
theorem test_environment_goes_stale : see (exec .envStaleCondition (aired 30000)) (fun t =>
      (t.comp.stale, t.comp.nuTarget, (t.source 6).raised)) = some (true, 0, some ⟨1, .envStale (some 30001)⟩) := by
  decide +kernel

/-! ### The strobe path -/

/-- FC0 running, the filtered level low since core clock 5. -/
def strobed : State := { counted 0 0 0 with eng := { (counted 0 0 0).eng with level := some false, levelClock := some 5, delay := 3 } }

theorem test_edge_is_latched : see (exec (.edgeAccept true 808 3) strobed) (fun t => (t.eng.latches, t.eng.level)) =
    some ([⟨.strobe, 805, 100, 5, none⟩], some true) := by decide +kernel

/-- F = 2 asks for three core clocks; a change seen at clock 808, up to which F was 4, needs five (spec/06, R109). -/
theorem test_short_excursion_is_dropped :
    see (exec (.edgeAccept true 808 2) strobed) (fun t => t.eng) = some strobed.eng ∧
    (let s := { strobed with eng := { strobed.eng with priorFilter := 4, filterClock := 808 } }
     see (exec (.edgeAccept true 808 4) s) (fun t => t.eng.level) = some (some false) ∧
       see (exec (.edgeAccept true 808 5) s) (fun t => t.eng.level) = some (some true) ∧
       see (exec (.edgeAccept true 809 3) s) (fun t => t.eng.level) = some (some true)) := by
  decide +kernel

/-- The strobe of 3.11, latched between samples 98 and 99. -/
def latching : State :=
  { base.setChan 0 { counting (base.chan 0) 258806820 0 0 with
      history := [⟨98, 258806400, .tracking, true⟩, ⟨99, 258806820, .tracking, true⟩] } with
    comp := { base.comp with alpha := 8000, tApplied := some 20350 }
    eng := { base.eng with latches := [⟨.strobe, 787, 98, 3, none⟩] } }

/-- The strobe of `latching` with FC1 as PARTNER. -/
def latchingBoth : State :=
  latching.setChan 1 { counting (latching.chan 1) 9 0 0 with role := .partner }

theorem test_latch_completes : see (exec .latchComplete latching) (fun t => t.eng.latches.map (·.latch)) =
    some [some ⟨some 9998890247, 2070452460, 0, true, true, false⟩] := by decide +kernel

/-- With FC1 as a PARTNER switched on after sample 98, the latch completes at once with no position (spec/06, R115). -/
theorem test_latch_without_partner_entry : see (exec .latchComplete
      (latching.setChan 1 { latching.chan 1 with role := .partner, state := .settling, next := 40, onAt := 99 }))
      (fun t => t.eng.latches.map (·.latch)) = some [some ⟨none, 0, 0, false, false, false⟩] := by decide +kernel

/-- A PARTNER that is OFF contributes its frozen Q, not the entry of the sample (spec/03, R64). -/
theorem test_partner_off_is_frozen :
    ({ counting (Channel.reset .partner) 7 0 0 with state := .off, history := [⟨98, 5, .tracking, true⟩] }).qAt 98 = 7 := by
  decide +kernel

/-- MEASURE just switched on, and FC1 as PARTNER, which has counted up to sample 99. -/
def rejoining : State :=
  { latchingBoth.setChan 0 { latchingBoth.chan 0 with state := .settling, q := 0, first := none, next := 60, onAt := 60, history := [] }
    with tracks := { latchingBoth.tracks with rt := some 5, rtCount := 60 } }

/-- At MEASURE's first sample the real-time track keeps its position, until PARTNER has counted that sample (spec/03, R64). -/
theorem test_no_position_before_the_run :
    see (exec (.sampleCounted sample100) rejoining) (fun t => (t.tracks.rt, t.tracks.rtCount)) = some (some 5, 60) ∧
    see (exec (.sampleCounted { sample100 with ch := 1 }) (rejoining.setChan 0 { rejoining.chan 0 with first := some 100, next := 101 }))
      (fun t => t.tracks.rtCount) = some 101 := by decide +kernel

/-- What MEASURE had counted at a CHANNEL_ON does not decide which sample starts the run (spec/01, R3). -/
theorem test_run_starts_whatever_measure_counted :
    (let ch := { latching.chan 1 with state := .settling, next := 40, onAt := 99 }
     ch.mayCount 39 = false ∧ ch.mayCount 40 = true ∧ ch.mayCount 98 = true ∧ ch.mayCount 101 = true) := by decide +kernel

/-- Two edges of one aligned instant keep the order in which they were accepted (entry 38). -/
theorem test_equal_instants_keep_their_order :
    (sortEdges [⟨.leading, 800, 100, 0, none⟩, ⟨.trailing, 800, 100, 0, none⟩, ⟨.strobe, 792, 99, 0, none⟩]).map (·.kind) =
      [.strobe, .leading, .trailing] := by decide +kernel

/-- A controller WAITING at aligned sample 99, P = 0, with the oldest of the seventeen positions given. -/
def awaitingStart (oldest : Int) (ctl : Ctl) : State :=
  { counted 0 0 0 with
    tracks := ⟨none, 100, 99, 100⟩
    trav := { base.trav with ctl := ctl, counted := true, remaining := 2, ring := oldest :: List.replicate 15 0
                             dir := if ctl = .running then some .fwd else none } }

/-- ΔP16 of +165 starts a pass and +150 does not (spec/05, 5.8). -/
theorem test_pass_starts :
    see (exec .alignedSample (awaitingStart (-165) .waiting)) (fun t => (t.trav.ctl, t.trav.passNo, t.trav.dir)) =
      some (.running, 1, some .fwd) ∧
    see (exec .alignedSample (awaitingStart (-150) .waiting)) (fun t => (t.trav.ctl, t.trav.passNo)) =
      some (.waiting, 0) := by decide +kernel

/-- Against a forward pass, ΔP16 of -90 is a TURN and -60 is not (spec/05, 5.8). -/
theorem test_pass_turns :
    see (exec .alignedSample (awaitingStart 90 .running)) (fun t =>
      (t.trav.ctl, t.trav.remaining, (t.source 9).raised)) = some (.waiting, 1, some ⟨1, .passEnd 0 .fwd .turn⟩) ∧
    see (exec .alignedSample (awaitingStart 60 .running)) (fun t => (t.trav.ctl, t.trav.remaining)) = some (.running, 2) := by
  decide +kernel

/-- The strobe of 3.11 in record 20's window: PROVISIONAL with -1,109,753 (spec/04, 4.8). -/
theorem test_strobe_is_provisional :
    ((occupying .none).matchStrobe (some 9998890247) true .interrupted true).eng.occ =
      some ⟨20, .low, .fwd, .provisional (-1109753) 9998890247, none⟩ := by decide +kernel

/-- The far-side exit commits it, and an empty crossing is a MISS (spec/06, R124). -/
theorem test_exit_commits :
    ((occupying (.provisional (-1109753) 9998890247)).exitOccupancy
        ⟨20, .low, .fwd, .provisional (-1109753) 9998890247, none⟩ .high).table.find 20 =
      some { record20 with
        accF := ⟨1, -1109753, 1231551721009, some ⟨-1109753, -1109753⟩⟩, last := some ⟨-1109753, 7, .fwd⟩ } ∧
    (((occupying .none).exitOccupancy ⟨20, .low, .fwd, .none, none⟩ .high).source 12).raised = some ⟨1, .reject 20 .miss⟩ := by
  decide +kernel

/-- The pulse of spec/06, 6.10, after the exit: open since 9,999,000,000, the exit of the window pending. -/
def pulsing : State :=
  { inPass with eng := { inPass.eng with
      occ := some ⟨20, .low, .fwd, .none, some .high⟩
      pulse := some ⟨⟨some 9999000000, 0, 0, true, true, false⟩, false⟩ } }

/-- Its trailing edge at 10,003,000,000 closes it: the centre is committed with +1,000,000 (spec/06, 6.10). -/
theorem test_pulse_closes :
    let t := pulsing.takeEdge true ⟨.trailing, 0, 0, 0, some ⟨some 10003000000, 0, 0, true, true, false⟩⟩
    (t.table.find 20).map (·.accF) = some ⟨1, 1000000, 1000000000000, some ⟨1000000, 1000000⟩⟩ ∧ t.eng.occ = none ∧
      t.eng.pulse = none := by decide +kernel

/-- Still open past 10,019,000,000 it is discarded, and WIDTH is counted (spec/06, 6.10). -/
theorem test_wide_pulse_is_discarded :
    pulsing.checkWidth 10019000000 = pulsing ∧ (pulsing.checkWidth 10019000001).eng.pulse = none ∧
    ((pulsing.checkWidth 10019000001).source 12).raised = some ⟨1, .reject 20 .width⟩ := by decide +kernel

/-! ### The port -/

theorem test_emptyTransaction_gives_footing :
    see (exec (.emptyTransaction 7) { base with port := ⟨false, .empty, []⟩ }) (fun t => t.port.footing) = some true := by
  decide +kernel

theorem test_requestFrame_is_accepted : see (exec (.requestFrame [0x2A#8, 0x00#8, 0x8A#8] 0) base) (fun t =>
      (t.awaits .readTraverse, t.rdy)) = some (true, true) := by decide +kernel

theorem test_requestFrame_overruns : see (exec (.requestFrame [0x2A#8, 0x00#8, 0x8A#8] 0) (inProcess .home base)) (fun t =>
      (t.awaits .home, (t.source 15).raised)) = some (true, some ⟨1, .linkFault .overrun 0x2A#8⟩) := by decide +kernel

theorem test_fetch_of_ok : see (exec (.fetch 4) (base.respond ⟨.ok, []⟩)) (fun t => t.port.sdo) =
    some [0xFF#8, 0x00#8, 0x00#8, 0xB8#8, 0xFF#8] := by decide +kernel

theorem test_fetch_not_ready : see (exec (.fetch 3) base) (fun t => t.port.sdo) = some [0xFF#8, 0x02#8, 0x00#8, 0x45#8] := by
  decide +kernel

/-- A state with the frame of these bytes in process. -/
def framed (bytes : List Byte) : State := { base with port := { base.port with link := .processing (frameOf bytes 0) } }

/-- The CRC byte 8Bh, and the frame cut before its CRC (spec/09, 9.9). -/
theorem test_frameError :
    see (exec .frameError (framed [0x2A#8, 0x00#8, 0x8B#8])) (fun t => (answerOf t, (t.source 15).raised)) =
      some (some ⟨.frameError, []⟩, some ⟨1, .linkFault .crc 0x2A#8⟩) ∧
    see (exec .frameError (framed [0x2A#8, 0x00#8])) (fun t => (answerOf t, (t.source 15).raised)) =
      some (some ⟨.frameError, []⟩, some ⟨1, .linkFault .length 0x2A#8⟩) := by decide +kernel

theorem test_unknown : see (exec .unknown (framed [0x3E#8, 0x00#8, crc [0x3E#8, 0x00#8]])) (fun t =>
      (answerOf t, (t.source 15).raised)) = some (some ⟨.unknown, []⟩, none) := by decide +kernel

theorem test_csnSeenHigh : see (exec .csnSeenHigh State.reset) (fun t => t.port.footing) = some true := by decide +kernel

/-! ### Requests -/

/-- A SET_CHANNEL that carries nothing, for channel 1. -/
def channelReq : SetChannelReq := ⟨1, none, none, none, none, none, none, none, 0⟩

theorem test_setChannel_clamps : see (ask (.setChannel { channelReq with lambda := some 100, passK := some 8 }) base) (fun t =>
      ((t.chan 1).lambda, (t.chan 1).passK, answerOf t)) = some (400000000, 8, some ⟨.clamped, []⟩) := by decide +kernel

theorem test_setChannel_conflicts : see (ask (.setChannel { channelReq with role := some 0 }) base) answerOf =
    some (some ⟨.conflict, []⟩) := by decide +kernel

theorem test_setQuadrature : see (ask (.setQuadrature ⟨1, 0x2000, 0xFFCE, 36045, 0, 0⟩) base) (fun t =>
      ((t.chan 1).codes, answerOf t)) = some (⟨8191, -50, 36045, 0, 0⟩, some ⟨.clamped, []⟩) := by decide +kernel

/-- A SET_MONITOR that carries nothing, for channel 0. -/
def monitorReq : SetMonitorReq := ⟨0, none, none, none, none, none, none, none, none, none, 0⟩

theorem test_setMonitor : see (ask (.setMonitor { monitorReq with nr := some 4, nd := some 3 }) base) (fun t =>
      ((t.chan 0).mon, answerOf t)) = some (⟨2000, 500, 40000, 3, 4, 500, 20, 512, 1024⟩, some ⟨.ok, []⟩) := by decide +kernel

/-- A SET_COMPENSATION that carries nothing. -/
def compensationReq : SetCompensationReq := ⟨none, none, none, none, none, none, none, none, none, none, none, 0⟩

theorem test_setCompensation :
    see (ask (.setCompensation { compensationReq with lt := some 500, alpha := some 8000 }) base) (fun t =>
      (t.comp.lt, t.comp.alpha, answerOf t)) = some (1000, 8000, some ⟨.clamped, []⟩) ∧
    see (ask (.setCompensation { compensationReq with source := some 2 }) base) answerOf = some (some ⟨.conflict, []⟩) := by
  decide +kernel

/-- A SET_DETECTOR that carries nothing. -/
def detectorReq : SetDetectorReq := ⟨none, none, none, none, none, none, 0⟩

theorem test_setDetector :
    see (ask (.setDetector { detectorReq with mode := some 2, delay := some 255 }) latching) (fun t =>
      (t.eng.mode, t.eng.delay, t.eng.latches, answerOf t)) = some (.pulseHigh, 240, [], some ⟨.clamped, []⟩) ∧
    see (ask (.setDetector { detectorReq with wMax := some 499 }) base) answerOf = some (some ⟨.range, []⟩) := by decide +kernel

/-- A SET_TRAVERSE that carries nothing. -/
def traverseReq : SetTraverseReq := ⟨none, none, none, none, 0⟩

theorem test_setTraverse :
    see (ask (.setTraverse { traverseReq with vStart := some 0, sLo := some (BitVec.ofInt 48 (-5000000000)) }) base) (fun t =>
      (t.trav.vStart, t.trav.sLo, answerOf t)) = some (1, -5000000000, some ⟨.clamped, []⟩) ∧
    see (ask (.setTraverse { traverseReq with sLo := some 5, sHi := some 5 }) base) answerOf = some (some ⟨.range, []⟩) := by
  decide +kernel

/-- A SET_ATTENTION that gives source 12 the action and the level given. -/
def attentionReq (level action : Byte) : SetAttentionReq :=
  ⟨none, (List.replicate 16 none).set 12 (some level), (List.replicate 16 none).set 12 (some action), 0⟩

theorem test_setAttention :
    see (ask (.setAttention (attentionReq 9 1)) base) (fun t => (t.source 12, answerOf t)) =
      some (⟨7, .brk, none⟩, some ⟨.clamped, []⟩) ∧
    see (ask (.setAttention (attentionReq 3 3)) base) answerOf = some (some ⟨.range, []⟩) := by decide +kernel

theorem test_channelOn :
    see (ask (.channelOn 1) base) (fun t => ((t.chan 1).state, answerOf t)) = some (.settling, some ⟨.ok, []⟩) ∧
    see (ask (.channelOn 0) (counted 0 0 0)) answerOf = some (some ⟨.state, []⟩) := by decide +kernel

theorem test_channelOff :
    see (ask (.channelOff 0) (counted 5 0 0)) (fun t => ((t.chan 0).state, (t.chan 0).q, (t.chan 0).referenced)) =
      some (.off, 5, false) ∧
    see (ask (.channelOff 0) inPass) answerOf = some (some ⟨.state, []⟩) := by decide +kernel

theorem test_preset :
    see (ask (.preset 0 5) (counted 1000 0 0)) (fun t => ((t.chan 0).origin, answerOf t)) = some (7995, some ⟨.ok, []⟩) ∧
    see (ask (.preset 0 5) base) answerOf = some (some ⟨.state, []⟩) := by decide +kernel

theorem test_home :
    see (ask .home base) (fun t => (t.eng.home, answerOf t)) = some (true, some ⟨.ok, []⟩) ∧
    see (ask .home inPass) answerOf = some (some ⟨.state, []⟩) := by decide +kernel

theorem test_putEnvironment : see (ask (.putEnvironment ⟨some 20000, none, some 200000, none, 0⟩) (aired 9)) (fun t =>
      (t.comp.env, t.comp.age, (t.source 7).raised, answerOf t)) =
    some (⟨some 20000, none, some 120000, some 1170⟩, 0, some ⟨1, .envClamp false false true false⟩,
      some ⟨.clamped, []⟩) := by decide +kernel

/-- FC2 as the TRACKER of 3.10, with Lt given. -/
def tracked : State :=
  { base.setChan 2 { counting (base.chan 2) 1000000 0 0 with role := .tracker, passK := 2 } with
    comp := { (aired 1).comp with lt := 500000 } }

theorem test_anchorTracker :
    see (ask (.anchorTracker none 0) tracked) (fun t => (t.comp.anchor, answerOf t)) =
      some (some ⟨270556, 1000000⟩, some ⟨.ok, []⟩) ∧
    see (ask (.anchorTracker (some 400001) 0) tracked) answerOf = some (some ⟨.range, []⟩) := by decide +kernel

theorem test_startPlan :
    see (ask (.startPlan 2) base) (fun t => (t.trav.ctl, t.trav.counted, t.trav.remaining)) = some (.waiting, true, 2) ∧
    see (ask (.startPlan 0) base) (fun t => (t.trav.ctl, t.trav.counted)) = some (.waiting, false) := by decide +kernel

/-- STOP_PLAN in a pass: the pass counts, and PLAN_DONE is raised once, with detail stopped (spec/05, 5.8). -/
theorem test_stopPlan : see (ask .stopPlan { inPass with trav := { inPass.trav with remaining := 1 } }) (fun t =>
      (t.trav.ctl, t.trav.remaining, (t.source 10).raised, (t.source 9).raised)) =
    some (.idle, 0, some ⟨1, .planDone true⟩, some ⟨1, .passEnd 7 .fwd .request⟩) := by decide +kernel

theorem test_endPass :
    see (ask .endPass (occupying .none)) (fun t => (t.trav.ctl, t.trav.remaining, t.eng.occ, (t.source 12).raised)) =
      some (.waiting, 1, none, some ⟨1, .reject 20 .interrupted⟩) ∧
    see (ask .endPass base) answerOf = some (some ⟨.state, []⟩) := by decide +kernel

theorem test_probe :
    see (ask (.probe 0 30) (counted 0 0 0)) (fun t => (t.probe.run, answerOf t)) =
      some (some ⟨0, 20, 0, none, 0⟩, some ⟨.clamped, []⟩) ∧
    see (ask (.probe 0 8) probing) answerOf = some (some ⟨.busy, []⟩) := by decide +kernel

/-- Record 16 that ends where record 10 or 20 begins or ends overlaps; a gap of 1 pm is enough (spec/04, R72). -/
theorem test_insertRecord :
    see (ask (.insertRecord ⟨16, 4000000, 2000000, 0, 0, 1⟩) tabled) answerOf = some (some ⟨.overlap, []⟩) ∧
    see (ask (.insertRecord ⟨16, 4000001, 2000000, 0, 0, 1⟩) tabled) (fun t => t.table.records.map (·.label)) =
      some [10, 16, 20] := by decide +kernel

theorem test_changeRecord :
    see (ask (.changeRecord ⟨10, some 20000000000, none, none, none, 0⟩) tabled) (fun t => t.table.records.map (·.label)) =
      some [20, 10] ∧
    see (ask (.changeRecord ⟨20, none, some 3000000, none, none, 0⟩) (occupying .none)) answerOf =
      some (some ⟨.occupied, []⟩) := by decide +kernel

theorem test_retireRecord :
    see (ask (.retireRecord 20) (occupying .none)) (fun t => (t.table.records.map (·.label), t.eng.occ)) = some ([10], none) ∧
    see (ask (.retireRecord 30) tabled) answerOf = some (some ⟨.absent, []⟩) := by decide +kernel

theorem test_setRecordState :
    see (ask (.setRecordState 10 1) tabled) (fun t => (t.table.find 10).map (·.state)) = some (some .paused) ∧
    see (ask (.setRecordState 20 1) (occupying .none)) answerOf = some (some ⟨.occupied, []⟩) := by decide +kernel

/-- The table with record 10 COMPLETE, one miss counted. -/
def spent : State :=
  { tabled with table := { tabled.table with records := [{ record10 with state := .complete, misses := 1 }, record20] } }

theorem test_clearResults :
    see (ask (.clearResults 10 0) spent) (fun t => t.table.records) = some [record10, record20] := by decide +kernel

theorem test_clearResultsAll : see (ask (.clearResultsAll 0) { spent with eng := { spent.eng with strays := 4 } }) (fun t =>
      (t.table.records, t.eng.strays)) = some ([record10, record20], 0) := by decide +kernel

theorem test_readRecord : see (ask (.readRecord 20) tabled) (fun t =>
      (answerOf t).map fun r => (r.status, r.payload.take 12)) =
    some (some (.ok, [0x14#8, 0x00#8, 0x00#8, 0xE4#8, 0x0B#8, 0x54#8, 0x02#8, 0x00#8, 0x80#8, 0x84#8, 0x1E#8, 0x00#8])) := by
  decide +kernel

/-- A position in a window is inside; one between two equally near records gives the lower (spec/04, R89). -/
theorem test_findPosition :
    see (ask (.findPosition 9998890247) tabled) (fun t => (answerOf t).map fun r => (r.payload.take 1, r.payload.getD 17 0)) =
      some (some ([0x14#8], 0x10#8)) ∧
    see (ask (.findPosition 5000000000) tabled) (fun t => (answerOf t).map fun r => (r.payload.take 1, r.payload.getD 17 0)) =
      some (some ([0x0A#8], 0x00#8)) := by decide +kernel

theorem test_seek : see (ask (.seek 5000000000) tabled) (fun t => (t.table.cursorKey, t.table.cursorExclusive)) =
    some (5000000000, false) := by decide +kernel

theorem test_readNext :
    see (ask (.readNext 0x0F#8) { tabled with table := { tabled.table with cursorKey := 5000000000 } }) (fun t =>
      (t.table.cursorKey, t.table.cursorExclusive, (answerOf t).map fun r => r.payload.take 1)) =
      some (10000000000, true, some [0x14#8]) ∧
    see (ask (.readNext 0x02#8) tabled) answerOf = some (some ⟨.absent, [0x01#8]⟩) := by decide +kernel

/-- Record 101 of spec/07, 7.6, with its five captures. -/
def record101 : LineRec :=
  ⟨101, 10000000000, 2000000, 3, 2, .complete, ⟨3, -3329243, 3694619655109, some ⟨-1109790, -1109700⟩⟩,
    ⟨2, -2218300, 2460427450000, some ⟨-1109200, -1109100⟩⟩, some ⟨-1109790, 25, .fwd⟩, 0, .zero⟩

theorem test_readResult : record101.centre = some (-1109449) ∧ record101.bias = some (-299) ∧
    see (ask (.readResult 101) { base with table := ⟨[record101], 0, false⟩ }) (fun t =>
      (answerOf t).map fun r => (r.status, r.payload.length)) = some (some (.ok, 69)) := by decide +kernel

/-- Without a capture there is no centre, and the interval is absent: the image is zeros after the labels. -/
theorem test_readInterval : interval record10 record20 = none ∧
    see (ask (.readInterval 10 99) tabled) answerOf = some (some ⟨.absent, []⟩) := by decide +kernel

theorem test_readChannel :
    see (ask (.readChannel 0) (counted 5 0 0)) (fun t => (answerOf t).map fun r => r.payload.take 9) =
      some (some [0x00#8, 0x02#8, 0x00#8, 0x01#8, 0x05#8, 0x00#8, 0x00#8, 0x00#8, 0x00#8]) ∧
    see (ask (.readChannel 4) base) answerOf = some (some ⟨.range, []⟩) := by decide +kernel

theorem test_block_readouts :
    see (ask .readCompensation base) (fun t => (answerOf t).map (·.payload.length)) = some (some 60) ∧
    see (ask .readTraverse base) (fun t => (answerOf t).map (·.payload.length)) = some (some 37) ∧
    see (ask .readProbe base) (fun t => (answerOf t).map (·.payload.length)) = some (some 29) ∧
    see (ask .readAttention base) (fun t => (answerOf t).map fun r => (r.payload.length, r.payload.take 4)) =
      some (some (148, [0x00#8, 0x00#8, 0xFF#8, 0x00#8])) := by decide +kernel

/-- FC1 LOST with LOST1 and BRIDGE pending. -/
def alarmed : State :=
  (((base.setChan 1 { counting (base.chan 1) 0 0 0 with state := .lost, loss := .slip, referenced := false }).raise
    (.lost 1 .slip)).raise (.lost 1 .slip)).raise (.bridge 0 3)

/-- The condition source is left pending with count 1, the event source is cleared (spec/08, R156). -/
theorem test_acknowledge : see (ask (.acknowledge 0xFFFF) alarmed) (fun t => ((t.source 1).raised, (t.source 4).raised)) =
    some (some ⟨1, .lost 1 .slip⟩, none) := by decide +kernel

/-- A soft reset: accepted, it stops the pass; complete, it keeps the records and answers OK. -/
theorem test_resetPart :
    see (exec (.requestFrame [0x3F#8, 0x00#8, crc [0x3F#8, 0x00#8]] 0) inPass) (fun t => (t.port.link, t.trav.ctl)) =
      some (.resetting, .idle) ∧
    see (exec .resetPart { inPass with port := { inPass.port with link := .resetting } }) (fun t =>
      (t.table.records, t.trav.passNo, answerOf t)) = some ([record10, record20], 0, some ⟨.ok, []⟩) := by decide +kernel

/-! ### Witnesses: for each statement with hypotheses, states and operands that meet those of every clause -/

/-- The request is the one in process. -/
def awaited (i : Instr) (s : State) : Prop := (inProcess i s).awaits i = true

theorem witness_PowerOnAndRstnResetThePart :
    State.reset.rstnLow = false ∧ { State.reset with rstnLow := true }.rstnLow = true := by decide +kernel

/-- The soft reset in progress. -/
def softReset : State := { inPass with port := { inPass.port with link := .resetting } }

theorem witness_ResetPartKeepsTheRecords :
    (inPass.rstnLow = false ∧ inPass.port.footing = true ∧ (0x3F#8 : Byte) ≠ 0 ∧ inPass.port.link = .empty ∧
      completionOf (frameOf (0x3F#8 :: [0x00#8, crc [0x3F#8, 0x00#8]]) 0) = .resetPart) ∧
    softReset.port.link = .resetting := by decide +kernel

theorem witness_SamplesAndUpdatesPauseDuringAReset :
    (base.rstnLow = false ∧ base.port.link ≠ .resetting) ∧ { State.reset with rstnLow := true }.rstnLow = true ∧
    softReset.port.link = .resetting := by decide +kernel

/-- The port before it has seen CSN high. -/
def unfooted : State := { base with port := ⟨false, .empty, []⟩ }

theorem witness_TransactionsNeedTheirFooting :
    (base.rstnLow = false ∧ base.port.footing = true ∧ base.port.link = .empty ∧
      completionOf ⟨([0x2A#8, 0x00#8, 0x8A#8] : List Byte).take 99, 3, 7⟩ ≠ .resetPart) ∧
    ((inProcess .home base).rstnLow = false ∧ (inProcess .home base).port.footing = true ∧
      (inProcess .home base).port.link = .processing (frameOf [0x13#8, 0x00#8, crc [0x13#8, 0x00#8]] 0)) ∧
    (softReset.rstnLow = false ∧ softReset.port.footing = true ∧ softReset.port.link = .resetting) ∧
    unfooted.port.footing = false := by decide +kernel

theorem witness_FetchDrivesTheResponse :
    (base.rstnLow = false ∧ base.port.footing = true ∧ answerOf base = none) ∧
    (base.respond ⟨.ok, []⟩).port.link = .holding ⟨.ok, []⟩ ∧ (base.respond ⟨.ok, []⟩).port.footing = true ∧ 7 < 8 := by
  decide +kernel

theorem witness_BadFramesCompleteWithoutARequest :
    (let f := frameOf [0x2A#8, 0x00#8] 0
     (framed [0x2A#8, 0x00#8]).port.link = .processing f ∧ f.count < 3) ∧
    (let f := frameOf [0x2A#8, 0x00#8, 0x8B#8] 0
     (framed [0x2A#8, 0x00#8, 0x8B#8]).port.link = .processing f ∧ f.tail = 0 ∧ 3 ≤ f.count ∧ f.lengthByte ≤ 96 ∧
       f.count = f.lengthByte + 3 ∧ crc (f.code :: BitVec.ofNat 8 f.lengthByte :: f.payload) ≠ f.crcByte) ∧
    (let f := frameOf [0x10#8, 0x00#8, crc [0x10#8, 0x00#8]] 0
     f.tail = 0 ∧ 3 ≤ f.count ∧ f.count = f.lengthByte + 3 ∧
       crc (f.code :: BitVec.ofNat 8 f.lengthByte :: f.payload) = f.crcByte ∧ parsePayload f.code f.payload = .badLength) ∧
    (let f := frameOf [0x3E#8, 0x00#8, crc [0x3E#8, 0x00#8]] 0
     f.tail = 0 ∧ 3 ≤ f.count ∧ f.count = f.lengthByte + 3 ∧
       crc (f.code :: BitVec.ofNat 8 f.lengthByte :: f.payload) = f.crcByte ∧ parsePayload f.code f.payload = .unknown) := by
  decide +kernel

theorem witness_FramesCarryTheirRequests :
    Instr.home.isRequest = true ∧ Instr.home.wellFormed = true ∧ Instr.home ≠ .resetPart ∧
    (Instr.setAttention (attentionReq 9 1)).wellFormed = true ∧ base.rstnLow = false ∧ base.port.footing = true ∧
    base.port.link = .empty := by decide +kernel

theorem witness_NumbersAndImagesHaveTheirWidths :
    (255 < 256 ^ 1) ∧ (-(2 ^ (8 * 1 - 1)) ≤ (-128 : Int) ∧ (127 : Int) < 2 ^ (8 * 1 - 1)) ∧ 0 ≤ record101.accF.sumSq := by
  decide

theorem witness_EveryRequestEndsInOneResponse :
    (Instr.readChannel 4).isRequest = true ∧ Instr.readChannel 4 ≠ .resetPart ∧ awaited (.readChannel 4) base ∧
    base.awaits (.readChannel 4) = false ∧
    see (ask (.readChannel 4) base) answerOf = some (some ⟨.range, []⟩) := by
  unfold awaited; decide +kernel

theorem witness_UnlistedFlagsAndChannelsAreRefused :
    (awaited (.setChannel { channelReq with unlisted := 1 }) base ∧ awaited (.setMonitor { monitorReq with unlisted := 127 }) base ∧
      awaited (.setCompensation { compensationReq with unlisted := 1 }) base ∧
      awaited (.setDetector { detectorReq with unlisted := 2 }) base ∧
      awaited (.setTraverse { traverseReq with unlisted := 8 }) base ∧
      awaited (.setAttention { attentionReq 1 1 with unlisted := 127 }) base ∧
      awaited (.putEnvironment ⟨none, none, none, none, 1⟩) base ∧ awaited (.anchorTracker none 1) base ∧
      awaited (.changeRecord ⟨1, none, none, none, none, 1⟩) base ∧ awaited (.clearResults 1 1) base ∧
      awaited (.clearResultsAll 64) base) ∧
    (4 ≤ (4 : Byte).toNat ∧ awaited (.setChannel { channelReq with ch := 4 }) base ∧
      awaited (.setQuadrature ⟨4, 0, 0, 0, 0, 0⟩) base ∧ awaited (.setMonitor { monitorReq with ch := 255 }) base ∧
      awaited (.channelOn 4) base ∧ awaited (.channelOff 4) base ∧ awaited (.preset 4 0) base ∧ awaited (.probe 4 8) base ∧
      awaited (.readChannel 255) base) := by
  unfold awaited; decide +kernel

theorem witness_ReadoutsChangeNothing :
    (awaited (.readChannel 3) base ∧ awaited .readCompensation base ∧ awaited .readTraverse base ∧ awaited .readProbe base ∧
      awaited .readAttention base) ∧
    (tabled.table.find (20 : BitVec 16).toNat = some record20 ∧ tabled.table.find (10 : BitVec 16).toNat = some record10 ∧
      tabled.table.find (30 : BitVec 16).toNat = none ∧ awaited (.readRecord 20) tabled ∧ awaited (.readResult 20) tabled ∧
      awaited (.readInterval 10 20) tabled ∧ awaited (.readInterval 10 30) tabled) ∧
    (0 ≤ (base.chan 0).r ∧ 0 ≤ (base.chan 0).phi ∧ latchingBoth.partner = some 1 ∧ base.partner = none) ∧
    ((awaitingStart 0 .running).trav.ring.length ≠ 17 ∧ (List.replicate 17 (0 : Int)).length = 17 ∧
      (occupying .none).eng.occ = some ⟨20, .low, .fwd, .none, none⟩ ∧ base.eng.occ = none) ∧
    (probing.probe.run = some ⟨0, 8, 255, some ⟨16384, 16384, 0, 0, 16384, 16384⟩, 255 * 16384⟩ ∧
      probing.probe.result = none) ∧
    ((alarmed.source 1).raised = some ⟨2, .lost 1 .slip⟩ ∧ (alarmed.source 0).raised = none) := by
  unfold awaited; decide +kernel

theorem witness_PortSampleIsCorrected :
    (base.chan 0).source = .port ∧ ((base.chan 0).point ⟨0, 0, 0, 0, false⟩).x = 0 ∧
    ((base.chan 0).point ⟨0, 0, 0, 0, false⟩).y = 0 ∧ ((base.chan 0).point ⟨0, 0, 0, 1, false⟩).x ≠ 0 := by decide +kernel

theorem witness_SyntheticSampleFollowsItsTrack : (counting (base.chan 0) 0 0 5).source = .synth := by decide +kernel

/-- FC0 counting with source PORT, its last phase and count given. -/
def lit (q phi : Int) : State := base.setChan 0 { counting (base.chan 0) q phi 0 with source := .port }

/-- A sample on the positive cosine axis, of radius 2000: as dark as a bright sample can be. -/
def faint : SampleIn := ⟨0, 100, 0, 2000, false⟩

theorem witness_BrightSampleUnwrapsTheCount :
    (∀ s ∈ [lit 0 4000, lit 0 1025, lit (2 ^ 39 - 1) 4000], s.mayCount faint = true ∧ (s.chan faint.ch).state = .tracking ∧
      (s.chan faint.ch).mon.rLow ≤ ((s.chan faint.ch).point faint).r) ∧
    ((lit 0 4000).chan 0).mon.limit = 1024 ∧ wrapped (0 - 1025) = -1025 ∧
    (let s := { lit 0 1025 with trav := inPass.trav }
     (s.chan 0).role = .measure ∧ s.trav.ctl = .running ∧ s.trav.dir = some .fwd ∧
       s.tracks.alignedLimit ≤ s.tracks.alignedNext) := by decide +kernel

/-- A sample of radius 1999: just dark. -/
def dark : SampleIn := ⟨0, 100, 0, 1999, false⟩

theorem witness_CoastFollowsItsAnchor :
    ((lit 0 4000).mayCount dark = true ∧ ((lit 0 4000).chan dark.ch).state = .tracking ∧
      (((lit 0 4000).chan 0).point dark).r < ((lit 0 4000).chan 0).mon.rLow) ∧
    (let s := longCoast.setChan 0 { longCoast.chan 0 with state := .coasting ⟨0, 0, 11, 4999, 0⟩ }
     s.mayCount dark = true ∧ (s.chan 0).state = .coasting ⟨0, 0, 11, 4999, 0⟩ ∧
       ¬((s.chan 0).mon.rLow + (s.chan 0).mon.rHyst ≤ ((s.chan 0).point dark).r) ∧
       ((4999 + 1 : Nat) : Int) ≤ 10 * (s.chan 0).mon.tShort) ∧
    (longCoast.mayCount dark = true ∧ (longCoast.chan 0).state = .coasting ⟨0, 0, 11, 5000, 0⟩ ∧
      ¬((longCoast.chan 0).mon.rLow + (longCoast.chan 0).mon.rHyst ≤ ((longCoast.chan 0).point dark).r) ∧
      10 * (longCoast.chan 0).mon.tShort < ((5000 + 1 : Nat) : Int)) := by decide +kernel

theorem witness_BridgeCheckComparesPhases :
    ∀ s ∈ [coasting 2702, coasting 3196, coasting 3197], s.mayCount sample100 = true ∧
      (s.chan 0).state = .coasting ⟨5000000, 3850, 1000, 6, 3⟩ ∧
      (s.chan 0).mon.rLow + (s.chan 0).mon.rHyst ≤ ((s.chan 0).point sample100).r ∧
      (s.chan 0).mon.nr ≤ ((3 + 1 : Nat) : Int) ∧ (s.chan 0).mon.nd ≤ 7 - (s.chan 0).mon.nr := by decide +kernel

theorem witness_SettlingFreezesTheCountUntilTracking :
    (let s := settling.setChan 0 { settling.chan 0 with settleRun := 199998, state := .lost }
     s.mayCount sample100 = true ∧ (s.chan 0).state = .lost ∧
       ¬((s.chan 0).mon.tSettle * 10000 ≤ ((199998 + 1 : Nat) : Int))) ∧
    (settling.mayCount sample100 = true ∧ (settling.chan 0).state = .settling ∧
      (settling.chan 0).mon.rLow + (settling.chan 0).mon.rHyst ≤ ((settling.chan 0).point sample100).r ∧
      (settling.chan 0).mon.tSettle * 10000 ≤ (((settling.chan 0).settleRun + 1 : Nat) : Int) ∧
      mag (wrapped (((settling.chan 0).point sample100).phi - (settling.chan 0).phiOld)) ≤ (settling.chan 0).mon.limit) := by
  decide +kernel

theorem witness_SaturationFlagIsSetAndCleared :
    (oversampled.mayCount ⟨0, 100, 0, 8000, true⟩ = true ∧ (oversampled.chan 0).sat = false ∧
      ((oversampled.chan 0).point ⟨0, 100, 0, 8000, true⟩).ovr = true ∧
      (oversampled.chan 0).mon.nd ≤ (((oversampled.chan 0).overRun + 1 : Nat) : Int)) ∧
    (calming.mayCount sample100 = true ∧ (calming.chan 0).sat = true ∧
      ((calming.chan 0).point sample100).r ≤ (calming.chan 0).mon.rHigh - (calming.chan 0).mon.rHyst ∧
      ((calming.chan 0).point sample100).ovr = false ∧
      (calming.chan 0).mon.nr ≤ (((calming.chan 0).calmRun + 1 : Nat) : Int)) := by decide +kernel

theorem witness_ProbeRunsToItsLength :
    (awaited (.probe 0 8) probing ∧ (inProcess (.probe 0 8) probing).probe.run ≠ none) ∧
    (awaited (.probe 0 8) base ∧ base.probe.run = none ∧ (base.chan 0).state = .off) ∧
    (awaited (.probe 0 8) (counted 0 0 0) ∧ ((counted 0 0 0).chan 0).state ≠ .off) ∧
    (probing.mayCount sample100 = true ∧ 255 + 1 = 2 ^ 8) ∧
    (let s := { probing with probe := ⟨some ⟨0, 8, 254, none, 0⟩, none⟩ }
     s.mayCount sample100 = true ∧ (0 : Fin 4) = sample100.ch ∧ 254 + 1 < 2 ^ 8) ∧
    (let s := { probing with probe := ⟨some ⟨1, 8, 0, none, 0⟩, none⟩ }
     s.mayCount sample100 = true ∧ (1 : Fin 4) ≠ sample100.ch) := by
  unfold awaited; decide +kernel

theorem witness_CommandsKeepWhatTheyDoNotOwn :
    (see (exec (.sampleCounted sample100) (counted 0 0 0)) fun t => (t.chan 0).next) = some 101 ∧
    (1 : Fin 4) ≠ sample100.ch ∧ (counted 0 0 0).eng.home = false ∧ keepsSettings (.sampleCounted sample100) = true ∧
    (counted 0 0 0).mayCount sample100 = true ∧ (counted 0 0 0).mayCount { sample100 with k := 99 } = false ∧
    keepsSettings .stopPlan = true ∧ (see (ask .stopPlan inPass) fun t => t.trav.ctl) = some .idle := by decide +kernel

theorem witness_SetChannelChecksAndSetsItsFields :
    (awaited (.setChannel { channelReq with ch := 0, role := some 1 }) (counted 0 0 0) ∧
      ((counted 0 0 0).chan 0).state ≠ .off) ∧
    (awaited (.setChannel { channelReq with role := some 0 }) base ∧ (base.chan 1).state = .off ∧
      roleOf 0 = some Role.measure ∧ Role.measure ≠ (base.chan 1).role) ∧
    (awaited (.setChannel { channelReq with passK := some 3 }) base ∧ (3 : Byte).toNat ∉ [1, 2, 4, 8]) ∧
    (let q := { channelReq with role := some 2, sense := some 255, passK := some 8, step := some 2047 }
     awaited (.setChannel q) base ∧ named roleOf q.role = some (some .partner) ∧ named senseOf q.sense = some (some .minus) ∧
       named passKOf q.passK = some (some 8) ∧ named inSourceOf q.source = some none ∧
       base.roleConflict 1 .partner = false ∧ base.trav.ctl ≠ .running ∧
       (awaited (.setChannel q) inPass ∧ inPass.roleConflict 1 .partner = false ∧ (inPass.chan 1).role ≠ .partner ∧
         (inPass.chan 1).state = .off ∧ inPass.trav.ctl = .running)) ∧
    (awaited (.setChannel { channelReq with ch := 0, step := some 2048 }) (counted 0 0 0) ∧
      channelReq.role = none ∧ channelReq.sense = none ∧ channelReq.passK = none ∧ channelReq.lambda = none ∧
      channelReq.datum = none ∧ channelReq.source = none) := by
  unfold awaited; decide +kernel

theorem witness_QuadratureAndMonitorSettingsAreStored :
    awaited (.setQuadrature ⟨3, 0x2000, 0xE000, 0xFFFF, 0x8000, 0xC000⟩) base ∧ (3 : Byte).toNat = (3 : Fin 4).val ∧
    awaited (.setMonitor { monitorReq with limit := some 1537, nd := some 0 }) base ∧ monitorReq.unlisted = 0 := by
  unfold awaited; decide +kernel

theorem witness_ChannelOnStartsFromZero :
    (awaited (.channelOn 3) base ∧ (base.chan 3).state = .off) ∧
    awaited (.channelOn 0) (counted 0 0 0) ∧ ((counted 0 0 0).chan 0).state ≠ .off := by
  unfold awaited; decide +kernel

theorem witness_ChannelOffStopsTheCount :
    (awaited (.channelOff 0) inPass ∧ (inPass.chan 0).role = .measure ∧ inPass.trav.ctl = .running) ∧
    (awaited (.channelOff 3) base ∧ (base.chan 3).state = .off ∧ base.trav.ctl ≠ .running) ∧
    (awaited (.channelOff 0) probing ∧ (probing.chan 0).state ≠ .off ∧ (probing.probe.run.map (·.ch)) = some 0) ∧
    (awaited (.channelOff 2) tracked ∧ (tracked.chan 2).role = .tracker ∧ tracked.probe.run = none) := by
  unfold awaited; decide +kernel

/-- The greatest eighth-count. -/
def top : BitVec 48 := BitVec.ofInt 48 (8 * (2 ^ 39 - 1))

theorem witness_PresetSetsTheOrigin :
    (awaited (.preset 0 5) base ∧ (base.chan 0).state ≠ .tracking) ∧
    (let s := { counted 0 0 0 with trav := inPass.trav }
     awaited (.preset 0 5) s ∧ (s.chan 0).state = .tracking ∧ (s.chan 0).role = .measure ∧ s.trav.ctl = .running) ∧
    (awaited (.preset 0 (top + 1)) (counted 0 0 0) ∧ 8 * (2 ^ 39 - 1) < mag (top + 1).toInt) ∧
    (awaited (.preset 0 top) (counted 0 0 0) ∧ mag top.toInt ≤ 8 * (2 ^ 39 - 1) ∧
      mag (8 * ((counted 0 0 0).chan 0).q - top.toInt) ≤ 8 * (2 ^ 39 - 1)) := by
  unfold awaited; decide +kernel

theorem witness_UpdateFormsTheTargets :
    (base.rstnLow = false ∧ base.port.link ≠ .resetting ∧ base.comp.source = .fixed) ∧
    ((aired 29999).comp.source = .environment ∧ ((29999 + 1 : Nat) : Int) ≤ 1000 * (aired 29999).comp.ageLimit ∧
      0 < (20000 : Int) + 273150) ∧
    ((aired 30000).comp.stale = false ∧ ¬(((30000 + 1 : Nat) : Int) ≤ 1000 * (aired 30000).comp.ageLimit)) ∧
    (let s := { tracked with comp := { tracked.comp with source := .tracker, anchor := some ⟨270556, 1000000⟩ } }
     s.tracker = some 2 ∧ 0 < (s.chan 2).passK ∧ 0 < s.comp.lt) ∧
    ({ tracked with comp := { tracked.comp with source := .tracker } }.comp.anchor = none) := by decide +kernel

theorem witness_UpdateMovesTheAppliedValues :
    (base.rstnLow = false ∧ base.port.link ≠ .resetting ∧ (base.source 6).action = .none) ∧
    (let s := { inPass with comp := { inPass.comp with policy := .passHold } }
     s.comp.policy = .passHold ∧ s.trav.ctl = .running ∧ (s.source 6).action = .none) ∧
    (let s := { base with comp := { base.comp with env := ⟨none, some 20350, none, none⟩, tApplied := some 20000 } }
     s.comp.env.tScale = some 20350 ∧ s.comp.tApplied = some 20000 ∧ s.trav.ctl ≠ .running) := by decide +kernel

/-- The default channel is sound, and so is FC0 counting. -/
theorem base_channel_sound (role : Role) : (Channel.reset role).Sound := by
  constructor <;> cases role <;> decide +kernel

theorem counted_channel_sound : ((counted 0 0 0).chan 0).Sound := by
  constructor <;> decide +kernel

theorem witness_PositionFollowsItsStages :
    ((0 : Int) < 8 ∧ (0 : Int) < 1000000000 + 400000) ∧
    ((counted 0 0 0).mayCount sample100 = true ∧ ((counted 0 0 0).chan 0).role = .measure ∧
      (counted 0 0 0).partner = none ∧ ((counted 0 0 0).chan 0).Sound ∧ (counted 0 0 0).tracks.rtCount ≤ sample100.k) ∧
    (rejoining.mayCount sample100 = true ∧ (rejoining.chan 0).role = .measure ∧ rejoining.partner = some 1 ∧
      (∀ s ∈ [rejoining, latchingBoth], (see (exec (.sampleCounted sample100) s) fun t =>
          decide ((t.chan 0).state ≠ .off ∧ s.tracks.rtCount < (t.chan 0).next ∧ (t.chan 1).next = 100)) = some true) ∧
      (see (exec (.sampleCounted sample100) rejoining) fun t => (t.chan 0).first) = some (some 100) ∧
      (see (exec (.sampleCounted sample100) latchingBoth) fun t => (t.chan 0).first) = some (some 0)) ∧
    (let s := latchingBoth.setChan 1 { latchingBoth.chan 1 with state := .off }
     s.partner = some 1 ∧ (s.chan 1).state = .off) ∧
    (latchingBoth.mayCount sample100 = true ∧ latchingBoth.mayCount { sample100 with ch := 1 } = true ∧
      (latchingBoth.chan 0).role = .measure ∧ latchingBoth.partner = some 1 ∧
      (see (exec (.sampleCounted sample100) latchingBoth) fun t => decide ((t.chan 0).state ≠ .off)) = some true) :=
  ⟨by decide, ⟨by decide +kernel, by decide +kernel, by decide +kernel, counted_channel_sound, by decide +kernel⟩,
    by decide +kernel⟩

theorem witness_CompensationTakesItsSettings :
    (awaited (.setCompensation { compensationReq with source := some 3 }) base ∧
      named indexSourceOf (some 3) = (none : Option (Option IndexSource))) ∧
    (awaited (.setCompensation { compensationReq with source := some 2 }) base ∧ base.tracker = none ∧
      named indexSourceOf (some 2) = some (some .tracker)) ∧
    (awaited (.setCompensation { compensationReq with source := some 2, lt := some 999 }) tracked ∧ tracked.tracker ≠ none ∧
      named policyOf compensationReq.policy = some none) ∧
    (awaited (.putEnvironment ⟨some 50000, none, none, some 10001, 0⟩) base) := by
  unfold awaited; decide +kernel

theorem witness_AnchorTiesTheTrackerCount :
    (awaited (.anchorTracker none 0) base ∧ base.tracker = none) ∧
    (let s := tracked.setChan 2 { tracked.chan 2 with state := .settling }
     awaited (.anchorTracker none 0) s ∧ s.tracker = some 2 ∧ (s.chan 2).state ≠ .tracking) ∧
    (let s := { tracked with comp := { tracked.comp with lt := 0 } }
     awaited (.anchorTracker none 0) s ∧ (s.chan 2).state = .tracking ∧ s.comp.lt = 0) ∧
    (let s := { tracked with comp := { tracked.comp with fresh := false } }
     awaited (.anchorTracker none 0) s ∧ s.comp.lt ≠ 0 ∧ s.comp.fresh = false) ∧
    (awaited (.anchorTracker none 0) tracked ∧ tracked.comp.fresh = true ∧ tracked.comp.env.p = some 101325 ∧
      tracked.comp.env.tAir = some 20000) ∧
    (awaited (.anchorTracker (some 400001) 0) tracked ∧ 400000 < (400001 : BitVec 32).toInt) ∧
    (awaited (.anchorTracker (some 400000) 0) tracked ∧ (400000 : BitVec 32).toInt ≤ 400000) := by
  unfold awaited; decide +kernel

theorem tabled_ordered : tabled.table.Ordered := by
  constructor <;> decide +kernel

/-- A table of 2048 records. -/
def full : State :=
  { base with table := ⟨(List.range 2048).map fun i => { record10 with label := i, n := 5000000 * (i : Int) }, 0, false⟩ }

theorem witness_InsertKeepsTheOrder :
    awaited (.insertRecord ⟨16, 0, 999, 0, 0, 0⟩) tabled ∧
    (awaited (.insertRecord ⟨16, 0, 1000, 0, 0, 0⟩) full ∧ 2048 ≤ full.table.records.length) ∧
    (awaited (.insertRecord ⟨20, 0, 1000, 0, 0, 0⟩) tabled ∧ ∃ r ∈ tabled.table.records, r.label = 20) ∧
    (awaited (.insertRecord ⟨16, 4000000, 2000000, 0, 0, 1⟩) tabled ∧
      ∃ r ∈ tabled.table.records, 4000000 - 2000000 ≤ r.n + r.w ∧ r.n - r.w ≤ 4000000 + 2000000) ∧
    (awaited (.insertRecord ⟨16, 4000001, 2000000, 0, 0, 1⟩) tabled ∧
      ¬∃ r ∈ tabled.table.records, 4000001 - 2000000 ≤ r.n + r.w ∧ r.n - r.w ≤ 4000001 + 2000000) := by
  unfold awaited; decide +kernel

theorem witness_ChangeRecordMovesOneRecord :
    (awaited (.changeRecord ⟨30, none, none, none, none, 0⟩) tabled ∧ tabled.table.find 30 = none) ∧
    (awaited (.changeRecord ⟨20, none, some 999, none, none, 0⟩) tabled ∧ tabled.table.find 20 = some record20) ∧
    (awaited (.changeRecord ⟨20, none, some 3000000, none, none, 0⟩) (occupying .none) ∧
      (occupying .none).table.find 20 = some record20 ∧ (occupying .none).eng.occ = some ⟨20, .low, .fwd, .none, none⟩) ∧
    (awaited (.changeRecord ⟨10, some 9996000000, none, none, none, 0⟩) tabled ∧
      9996000000 + 2000000 = record20.n - record20.w) ∧
    (awaited (.changeRecord ⟨10, some 9995999999, none, none, some 0, 0⟩) tabled ∧
      9995999999 + 2000000 < record20.n - record20.w) := by
  unfold awaited; decide +kernel

theorem witness_RecordEditsAddressOneRecord :
    (tabled.table.find (30 : BitVec 16).toNat = none ∧ awaited (.retireRecord 30) tabled ∧
      awaited (.setRecordState 30 0) tabled ∧ awaited (.clearResults 30 0) tabled) ∧
    (tabled.table.find (20 : BitVec 16).toNat = some record20 ∧ awaited (.retireRecord 20) tabled ∧
      awaited (.retireRecord 20) (occupying .none) ∧ awaited (.setRecordState 20 2) tabled ∧
      awaited (.setRecordState 20 1) (occupying .none) ∧ awaited (.setRecordState 20 1) tabled ∧
      awaited (.setRecordState 20 0) tabled ∧ awaited (.clearResults 20 0) tabled) ∧
    (let s := { tabled with table := { tabled.table with records := [{ record10 with state := .suspect, misses := 2 }] } }
     awaited (.setRecordState 10 0) s ∧ (s.table.find 10).map (·.state) = some .suspect) ∧
    awaited (.clearResultsAll 0) spent := by
  unfold awaited; decide +kernel

theorem witness_LookupsFollowTheOrder :
    tabled.table.Ordered ∧
    (awaited (.findPosition (BitVec.ofInt 48 (-(2 ^ 47)))) tabled ∧ awaited (.findPosition 5) base ∧
      awaited (.findPosition 10002000000) tabled ∧ awaited (.findPosition 5000000000) tabled ∧
      awaited (.seek (BitVec.ofInt 48 (-(2 ^ 47)))) tabled ∧ awaited (.seek (BitVec.ofInt 48 (2 ^ 47 - 1))) tabled ∧
      awaited (.readNext 0) tabled ∧ awaited (.readNext 16) tabled ∧ awaited (.readNext 2) tabled ∧
      awaited (.readNext 15) tabled) :=
  ⟨tabled_ordered, by unfold awaited; decide +kernel⟩

theorem witness_CommitAddsTheDeviation :
    ({ record20 with accF := ⟨65535, 0, 0, some ⟨0, 0⟩⟩ }.acc .fwd).n = 65535 ∧
    ({ record20 with accF := ⟨65534, 0, 0, some ⟨0, 0⟩⟩ }.acc .fwd).n < 65535 ∧ record20.state = .armed ∧
    { record20 with state := .paused }.state ≠ .armed := by decide

theorem witness_StatisticsAreRoundedOnce :
    (⟨2, -7, 25, some ⟨-4, -3⟩⟩ : Acc).Sound ∧ record101.accF.n ≠ 0 ∧ record101.accB.n ≠ 0 ∧ record10.accF.n = 0 ∧
    record10.accB.n = 0 := by
  refine ⟨⟨by decide, by decide, fun _ => ⟨⟨-4, -3⟩, by decide⟩, by decide, by decide⟩, by decide⟩

theorem witness_TraverseAndDetectorTakeTheirSettings :
    (awaited (.setTraverse { traverseReq with sLo := some 5, sHi := some 5 }) base) ∧
    (awaited (.setTraverse { traverseReq with sLo := some 5, sHi := some 6 }) base) ∧
    (awaited (.setDetector { detectorReq with mode := some 4 }) base ∧ named modeOf (some 4) = (none : Option (Option Mode))) ∧
    (awaited (.setDetector { detectorReq with wMin := some 20000001 }) base ∧ named modeOf detectorReq.mode = some none) ∧
    (awaited (.setDetector { detectorReq with filter := some 16 }) base) ∧
    (awaited (.setDetector { detectorReq with mode := some 3 }) latching ∧ latching.eng.occ = none) ∧
    (awaited (.setDetector { detectorReq with mode := some 3 }) (occupying .none) ∧
      (occupying .none).eng.occ = some ⟨20, .low, .fwd, .none, none⟩ ∧ (occupying .none).trav.ctl = .running) := by
  unfold awaited; decide +kernel

theorem witness_PlanRequestsFollowTheController :
    (awaited (.startPlan 0) base ∧ awaited .home base ∧ base.trav.ctl = .idle) ∧
    (awaited (.startPlan 1) inPass ∧ awaited .endPass inPass ∧ awaited .stopPlan inPass ∧ awaited .home inPass ∧
      inPass.trav.ctl = .running ∧ inPass.trav.dir = some .fwd) ∧
    (awaited .endPass base ∧ awaited .stopPlan base) ∧
    (let s := awaitingStart 0 .waiting
     awaited .stopPlan s ∧ s.trav.ctl = .waiting) := by
  unfold awaited; decide +kernel

theorem witness_PassEndHasItsEffects :
    base.trav.ctl ≠ .running ∧
    ((occupying .none).trav.ctl = .running ∧ (occupying .none).trav.dir = some .fwd ∧
      (occupying .none).eng.occ = some ⟨20, .low, .fwd, .none, none⟩ ∧ (occupying .none).comp.forcePolicy ≠ .passHold) ∧
    (inPass.eng.occ = none ∧ { inPass.comp with forcePolicy := .passHold }.forcePolicy = .passHold) := by decide +kernel

theorem witness_AlignedSampleTestsThePass :
    ∀ s ∈ [awaitingStart (-160) .waiting, awaitingStart (-159) .waiting, awaitingStart 80 .running, awaitingStart 79 .running,
        awaitingStart 0 .idle],
      s.rstnLow = false ∧ s.port.link ≠ .resetting ∧ (s.chan 0).state ≠ .off ∧ (s.chan 0).first ≠ none ∧
        s.tracks.alignedNext < s.tracks.alignedLimit ∧ s.eng.home = false ∧ s.eng.occ = none ∧ s.eng.pulse = none ∧
        (s.trav.ctl = .running → s.trav.dir = some .fwd) ∧
        { s with tracks := ⟨none, 100, 100, 100⟩ }.tracks.alignedLimit ≤ 100 := by decide +kernel

theorem witness_EdgeIsLatchedAtItsAlignedInstant :
    (strobed.rstnLow = false ∧ strobed.port.link ≠ .resetting ∧ ((2 : Nat) : Int) < strobed.eng.filter + 1 ∧
      strobed.eng.filter + 1 ≤ ((3 : Nat) : Int) ∧ strobed.eng.level = some (!true) ∧ strobed.eng.levelClock = some 5 ∧
      5 < 808) ∧
    (base.eng.level = none ∧ base.eng.levelClock = none) ∧
    (let s := { strobed with eng := { strobed.eng with mode := .edgeFall } }
     s.eng.mode = .edgeFall ∧ s.eng.level = some false) ∧
    (let s := { strobed with tracks := { strobed.tracks with alignedNext := 102 } }
     (805 / 8) + 1 < s.tracks.alignedNext ∧ s.eng.occ = none) ∧
    (let s := { occupying .none with
       chans := strobed.chans, eng := { (occupying .none).eng with level := some false, levelClock := some 5 }
       tracks := ⟨none, 0, 102, 102⟩ }
     s.trav.ctl = .running ∧ s.eng.occ = some ⟨20, .low, .fwd, .none, none⟩ ∧ (s.chan 0).state ≠ .off ∧
       (805 / 8) + 1 < s.tracks.alignedNext) := by decide +kernel

theorem witness_LatchReadsTheHistory :
    (latching.rstnLow = false ∧ latching.port.link ≠ .resetting ∧ latching.eng.latches = [] ++ ⟨.strobe, 787, 98, 3, none⟩ :: [] ∧
      (latching.chan 0).state ≠ .off ∧ (latching.chan 0).entry 98 = some ⟨98, 258806400, .tracking, true⟩ ∧
      (latching.chan 0).entry (98 + 1) = some ⟨99, 258806820, .tracking, true⟩ ∧ latching.partner = none) ∧
    (latchingBoth.partner = some 1 ∧ (latchingBoth.chan 1).state ≠ .off ∧
      (latchingBoth.chan 1).entry 98 = some ⟨98, 9, .tracking, true⟩ ∧
      (latchingBoth.chan 1).entry (98 + 1) = some ⟨99, 9, .tracking, true⟩) ∧
    (let s := latchingBoth.setChan 1 { latchingBoth.chan 1 with state := .off }
     s.partner = some 1 ∧ (s.chan 1).state = .off) ∧
    (let s := latchingBoth.setChan 1 { latchingBoth.chan 1 with history := [], first := none, next := 40, onAt := 99 }
     s.partner = some 1 ∧ (s.chan 1).entry 98 = none ∧ (s.chan 1).first = none ∧ 98 < max (s.chan 1).onAt (s.chan 1).next) := by
  decide +kernel

theorem witness_CrossingsFollowTheTravel :
    tabled.table.Ordered ∧
    (inPass.trav.ctl = .running ∧ inPass.trav.dir = some .fwd ∧ inPass.table.find record20.label = some record20 ∧
      inPass.eng.occ = none ∧ record20.eligible .fwd = true) ∧
    ((occupying .none).table.find record10.label = some record10 ∧ (occupying .none).eng.occ ≠ none) ∧
    base.trav.ctl ≠ .running :=
  ⟨tabled_ordered, by decide +kernel⟩

theorem witness_StrobeIsMatchedByItsPosition :
    tabled.table.Ordered ∧ record20 ∈ tabled.table.records ∧
    (∀ r ∈ tabled.table.records, (9997999999 : Int) < r.n - r.w ∨ r.n + r.w < 9997999999) ∧
    (record20.n - record20.w ≤ 9998000000 ∧ (10002000000 : Int) ≤ record20.n + record20.w) ∧
    inPass.eng.occ = none ∧ (occupying (.spoiled .double)).eng.occ = some ⟨20, .low, .fwd, .spoiled .double, none⟩ ∧
    (occupying (.provisional 1 10000000001)).eng.occ = some ⟨20, .low, .fwd, .provisional 1 10000000001, none⟩ ∧
    (pulsing.trav.ctl = .running ∧ pulsing.eng.pulse = some ⟨⟨some 9999000000, 0, 0, true, true, false⟩, false⟩ ∧
      inPass.eng.pulse = none ∧ base.trav.ctl ≠ .running ∧ { base.eng with home := true }.home = true) ∧
    ((counted 0 0 0).measure.entry 99 = some ⟨99, 0, .tracking, true⟩ ∧ (counted 0 0 0).measure.entry 97 = none) :=
  ⟨tabled_ordered, by decide +kernel⟩

theorem witness_ExitDecidesTheOutcome :
    inPass.table.find 20 = some record20 ∧ (inPass.source 12).action = .none ∧ (inPass.source 11).action = .none ∧
    Side.high ≠ Side.low ∧
    (let r := { record20 with quotaF := 1, quotaB := 0 }
     r.state ≠ .complete ∧ (r.commit .fwd 5 7).state = .complete ∧ (record20.commit .fwd 5 7).state ≠ .complete) ∧
    ((occupying .none).trav.ctl = .running ∧ (occupying .none).eng.pulse = none ∧
      (occupying .none).eng.occ = some ⟨20, .low, .fwd, .none, none⟩) ∧
    (pulsing.eng.occ = some ⟨20, .low, .fwd, .none, some .high⟩ ∧ pulsing.eng.pulse ≠ none) := by decide +kernel

/-- HOME armed, with a home-valid strobe taken. -/
def homing : State := { counted 5 0 0 with eng := { base.eng with home := true } }

theorem witness_HomeStrobeSetsTheOrigins :
    homing.eng.home = true ∧ (homing.chan 0).state = .tracking ∧ homing.partner = none ∧ homing.partner ≠ some 0 ∧
    (homing.source 8).action = .none ∧
    (⟨some 0, 40, 0, true, true, false⟩ : Latched).homeValid = true ∧
    (⟨some 0, 40, 0, false, false, false⟩ : Latched).homeValid = false ∧
    (latchingBoth.partner = some 1 ∧ (latchingBoth.chan 1).state = .tracking) ∧
    (let s := { homing with eng := { homing.eng with pulse := some ⟨⟨some 0, 40, 0, true, true, false⟩, true⟩ } }
     s.eng.pulse = some ⟨⟨some 0, 40, 0, true, true, false⟩, true⟩ ∧ s.trav.ctl ≠ .running ∧
       s.eng.wMin ≤ 500 ∧ 500 ≤ s.eng.wMax) := by decide +kernel

theorem witness_RaisingIsCountedAndMayBreak :
    (inPass.source 12).action = .none ∧ base.trav.ctl ≠ .running ∧
    (let s := inPass.setSource 10 ⟨0, .brk, none⟩
     (s.source 10).action ≠ .none ∧ s.trav.ctl = .running) := by decide +kernel

theorem witness_LinesFollowTheirSources :
    (alarmed.setSource 1 ⟨1, .stop, some ⟨2, .lost 1 .slip⟩⟩).attn = true ∧
    (alarmed.setSource 1 ⟨1, .stop, some ⟨2, .lost 1 .slip⟩⟩).mstop = true ∧ alarmed.attn = false ∧
    alarmed.firstSource = some 1 ∧ base.firstSource = none ∧ base.rdy = true ∧
    { inPass with tracks := ⟨some 10002000000, 0, 0, 0⟩ }.win = true ∧
    { inPass with tracks := ⟨some 10002000001, 0, 0, 0⟩ }.win = false := by decide +kernel

theorem witness_AttentionRequestsActOnTheirSources :
    (awaited (.setAttention (attentionReq 9 3)) base ∧ some (3 : Byte) ∈ (attentionReq 9 3).actions ∧ 2 < (3 : Byte).toNat) ∧
    (awaited (.setAttention (attentionReq 9 2)) base ∧
      ∀ x ∈ (attentionReq 9 2).actions, ∀ b, x = some b → b.toNat ≤ 2) ∧
    (awaited (.acknowledge 0x8002) alarmed ∧ alarmed.trav.ctl ≠ .running ∧ (alarmed.chan 1).state = .lost ∧
      (alarmed.chan 0).state ≠ .lost) ∧
    { base.comp with stale := true }.stale = true := by
  refine ⟨by unfold awaited; decide +kernel, ⟨by unfold awaited; decide +kernel, ?_⟩, by unfold awaited; decide +kernel⟩
  intro x hx b hb
  subst hb
  have : some b = some (2 : Byte) := by
    simpa [attentionReq, List.replicate, List.set] using hx
  cases this
  decide

/-! #### The invariants: sound states from which a step leads on -/

/-- The pass of `occupying`, with a conversion waiting. -/
def resultsWitness : State := { occupying (.provisional (-1109753) 9998890247) with pending := [.conversion] }

theorem witness_StepKeepsResultsSound :
    resultsWitness.ResultsSound ∧ (see (step resultsWitness) fun t => t.conversions) = some 1001 := by
  refine ⟨⟨⟨?_, ?_, ?_, ?_, ?_⟩, ?_, ?_⟩, by decide +kernel⟩
  all_goals first
    | decide +kernel
    | skip
  · intro r hr
    have hr : r = record10 ∨ r = record20 := by
      simpa [resultsWitness, occupying, inPass, tabled] using hr
    have empty : Acc.empty.Sound := ⟨by decide, by decide, by decide, by decide, by decide⟩
    obtain rfl | rfl := hr <;>
      exact ⟨empty, empty, by decide, by decide, by decide, by decide, by decide, by decide⟩
  · intro o ho
    have ho : (⟨20, .low, .fwd, .provisional (-1109753) 9998890247, none⟩ : Occ) = o := by
      simpa [resultsWitness, occupying] using ho
    subst ho
    refine ⟨by decide, by decide, by decide, ⟨record20, by decide +kernel⟩, ?_, ?_⟩
    · intro dev pos h
      cases h
      decide
    · intro reason h
      cases h

/-- A bright sample waiting in front. -/
def countsWitness : State := { counted 0 0 0 with pending := [.sampleCounted sample100] }

theorem witness_StepKeepsCountsSound :
    countsWitness.CountsSound ∧ (see (step countsWitness) fun t => (t.chan 0).next) = some 101 := by
  refine ⟨⟨fun c => ?_, ?_, ?_⟩, by decide +kernel⟩
  · match c with
    | 0 => exact counted_channel_sound
    | 1 => exact base_channel_sound .plain
    | 2 => exact base_channel_sound .plain
    | 3 => exact base_channel_sound .plain
  · intro e he
    cases he
  · intro p hp
    cases hp

/-- The tracker of `tracked` anchored, with an update waiting. -/
def rolesWitness : State :=
  { tracked with
    comp := { tracked.comp with source := .tracker, anchor := some ⟨270556, 1000000⟩ }, pending := [.update] }

theorem witness_StepKeepsRolesSound :
    rolesWitness.RolesSound ∧ (see (step rolesWitness) fun t => t.comp.nuTarget) = some 270556 := by
  refine ⟨⟨?_, ?_, ?_, ?_, ?_⟩, by decide +kernel⟩ <;> decide +kernel

/-- The update of 3.9 waiting, on a part whose index and factors agree. -/
def indexWitness : State := { aired 0 with pending := [.update] }

theorem witness_StepKeepsIndexSound :
    indexWitness.IndexSound ∧ (see (step indexWitness) fun t => t.comp.nuApplied) = some 270556 := by
  refine ⟨⟨?_, ?_, ?_, ?_, ?_⟩, by decide +kernel⟩ <;> decide +kernel

/-- LOST1 and BRIDGE pending, with their acknowledgement waiting. -/
def attentionWitness : State := { inProcess (.acknowledge 0xFFFF) alarmed with pending := [.acknowledge 0xFFFF] }

theorem witness_StepKeepsAttentionSound :
    attentionWitness.AttentionSound ∧
    (see (step attentionWitness) fun t => (t.source 1).raised) = some (some ⟨1, .lost 1 .slip⟩) := by
  refine ⟨⟨?_, ?_, ?_, ?_, ?_⟩, by decide +kernel⟩
  · decide +kernel
  · decide +kernel
  · intro i r h
    have h : some r = (attentionWitness.source i).raised := h.symm
    have key : ∀ j : Fin 16, (attentionWitness.source j).raised =
        if j = 1 then some ⟨2, .lost 1 .slip⟩ else if j = 4 then some ⟨1, .bridge 0 3⟩ else none := by decide +kernel
    rw [key i] at h
    split at h
    · cases h
      subst i
      decide
    · split at h
      · cases h
        subst i
        decide
      · cases h
  · decide +kernel
  · decide +kernel

/-- The pass of `awaitingStart` at a TURN, its aligned sample waiting. -/
def limitsWitness : State := { awaitingStart 90 .running with pending := [.alignedSample] }

theorem witness_StepKeepsLimitsSound :
    limitsWitness.LimitsSound ∧ (see (step limitsWitness) fun t => t.trav.ctl) = some .waiting := by
  refine ⟨⟨?_, ?_, ?_, ?_, ?_, ?_, ?_, ?_, ?_, ?_, ?_, ?_, ?_, ?_, ?_, ?_, ?_, ?_, ?_⟩, by decide +kernel⟩
  · intro c
    match c with
    | 0 => exact ⟨by decide, by decide, by decide, by decide, by constructor <;> decide, by constructor <;> decide⟩
    | 1 => exact ⟨by decide, by decide, by decide, by decide, by constructor <;> decide, by constructor <;> decide⟩
    | 2 => exact ⟨by decide, by decide, by decide, by decide, by constructor <;> decide, by constructor <;> decide⟩
    | 3 => exact ⟨by decide, by decide, by decide, by decide, by constructor <;> decide, by constructor <;> decide⟩
  · constructor <;> decide
  all_goals first
    | decide +kernel
    | skip
  all_goals
    intro p hp
    cases hp

end Sys2Proof.Tests
end

/-! PROOFS. What every operation of the part keeps, as relations between the state before and the state after. -/

namespace Sys2Proof.Machine

/-! ### The relations -/

/-- What every command does to the three invariants of limits, roles and counts: from a sound state it leads to a sound one. -/
structure State.Preserves (s t : State) : Prop where
  limits : s.LimitsSound → t.LimitsSound
  roles : s.RolesSound → t.RolesSound
  counts : s.CountsSound → t.CountsSound

/-- What an operation that is no setting's own leaves: every setting, the conversions and the port; and the limits and roles stay
sound. -/
structure State.Keeps (s t : State) : Prop where
  limits : s.LimitsSound → t.LimitsSound
  roles : s.RolesSound → t.RolesSound
  settings : s.SameSettings t
  conversions : t.conversions = s.conversions
  port : t.port = s.port

/-- An operation that keeps these and all three invariants. -/
structure State.Sustains (s t : State) : Prop extends s.Preserves t, s.Keeps t

/-- What an operation of the pass, the occupancy or the attention unit does: it sustains, and leaves the channels and the arming
of HOME alone. -/
structure State.Quiet (s t : State) : Prop extends s.Sustains t where
  chans : t.chans = s.chans
  home : t.eng.home = s.eng.home

/-- What the registration engine may do to the channels: only a HOME strobe changes one, and only its origin, its referenced
flag and its ν0 (R129). -/
structure State.Homing (s t : State) : Prop extends s.Keeps t where
  origins : ∀ c : Fin 4, t.chan c = { s.chan c with
    origin := (t.chan c).origin, referenced := (t.chan c).referenced, nu0 := (t.chan c).nu0 }
  unarmed : s.eng.home = false → t.chans = s.chans ∧ t.eng.home = false

/-! ### They are preorders -/

theorem State.Preserves.refl (s : State) : s.Preserves s := ⟨id, id, id⟩

theorem State.Preserves.trans {s t u : State} (h : s.Preserves t) (h' : t.Preserves u) : s.Preserves u :=
  ⟨h'.limits ∘ h.limits, h'.roles ∘ h.roles, h'.counts ∘ h.counts⟩

theorem State.SameSettings.refl (s : State) : s.SameSettings s := by
  constructor <;> simp

theorem State.SameSettings.trans {s t u : State} (h : s.SameSettings t) (h' : t.SameSettings u) : s.SameSettings u where
  channels c := by simp only [h.channels c, h'.channels c, and_self]
  index := by simp only [h.index, h'.index, and_self]
  traverse := by simp only [h.traverse, h'.traverse, and_self]
  detector := by simp only [h.detector, h'.detector, and_self]
  attention := by simp only [h.attention, h'.attention, and_self, implies_true]
  records := h'.records.trans h.records
  cursor := by simp only [h.cursor, h'.cursor, and_self]
  pins := h'.pins.trans h.pins
  queue := h'.queue.trans h.queue

theorem State.Keeps.refl (s : State) : s.Keeps s := ⟨id, id, .refl s, rfl, rfl⟩

theorem State.Keeps.trans {s t u : State} (h : s.Keeps t) (h' : t.Keeps u) : s.Keeps u :=
  ⟨h'.limits ∘ h.limits, h'.roles ∘ h.roles, h.settings.trans h'.settings, h'.conversions.trans h.conversions,
    h'.port.trans h.port⟩

theorem State.Keeps.sustains {s t : State} (h : s.Keeps t) (counts : s.CountsSound → t.CountsSound) : s.Sustains t :=
  { h with counts := counts }

theorem State.Sustains.refl (s : State) : s.Sustains s := (State.Keeps.refl s).sustains id

theorem State.Sustains.trans {s t u : State} (h : s.Sustains t) (h' : t.Sustains u) : s.Sustains u :=
  (h.toKeeps.trans h'.toKeeps).sustains (h'.counts ∘ h.counts)

theorem State.Quiet.refl (s : State) : s.Quiet s := ⟨.refl s, rfl, rfl⟩

theorem State.Quiet.trans {s t u : State} (h : s.Quiet t) (h' : t.Quiet u) : s.Quiet u :=
  ⟨h.toSustains.trans h'.toSustains, h'.chans.trans h.chans, h'.home.trans h.home⟩

theorem State.Homing.refl (s : State) : s.Homing s := ⟨.refl s, fun _ => rfl, fun h => ⟨rfl, h⟩⟩

theorem State.Homing.trans {s t u : State} (h : s.Homing t) (h' : t.Homing u) : s.Homing u where
  toKeeps := h.toKeeps.trans h'.toKeeps
  origins c := by rw [h'.origins c, h.origins c]
  unarmed hs := by
    obtain ⟨hc, ht⟩ := h.unarmed hs
    obtain ⟨hc', hu⟩ := h'.unarmed ht
    exact ⟨hc'.trans hc, hu⟩

theorem State.Quiet.homing {s t : State} (h : s.Quiet t) : s.Homing t :=
  ⟨h.toKeeps, fun c => by rw [State.chan_congr h.chans], fun hs => ⟨h.chans, h.home.trans hs⟩⟩

/-- A list of operations keeps what each of them keeps. -/
theorem State.Quiet.foldl {α : Type} {f : State → α → State} (h : ∀ (s : State) (a : α), s.Quiet (f s a)) (xs : List α) (s : State) :
    s.Quiet (xs.foldl f s) := by
  induction xs generalizing s with
  | nil => exact .refl s
  | cons x xs ih => exact (h s x).trans (ih _)

/-! ### Writes to one block -/

/-- Engines with the same settings (R109). -/
def Engine.SameSettings (e e' : Engine) : Prop :=
  e'.mode = e.mode ∧ e'.filter = e.filter ∧ e'.delay = e.delay ∧ e'.wMin = e.wMin ∧ e'.wMax = e.wMax ∧
    e'.missLimit = e.missLimit ∧ e'.priorFilter = e.priorFilter ∧ e'.filterClock = e.filterClock

/-- An engine's edges, pulse and strays after an operation lie within the limits that those before it met. -/
structure Engine.Within (e e' : Engine) : Prop where
  settings : e.SameSettings e'
  latches : e'.latches.Sublist e.latches
  pulse : e'.pulse = none ∨ e'.pulse = e.pulse
  strays : e.strays ≤ 65535 → e'.strays ≤ 65535

/-- The engine written without a new edge or pulse. -/
theorem State.sustains_eng {s : State} {e : Engine} (h : s.eng.Within e) : s.Sustains { s with eng := e } where
  limits hs := by
    obtain ⟨hmode, hfilter, hdelay, hmin, hmax, hmiss, hprior, hclock⟩ := h.settings
    exact { hs with
      filter := by rw [hfilter, hprior]; exact hs.filter
      delay := by rw [hdelay]; exact hs.delay
      band := by rw [hmin, hmax]; exact hs.band
      missLimit := by rw [hmiss]; exact hs.missLimit
      latches := h.latches.length_le.trans hs.latches
      strays := h.strays hs.strays }
  roles hs := { hs with }
  counts hs := { hs with
    edges := fun x hx => hs.edges x (h.latches.subset hx)
    pulse := fun p hp => hs.pulse p <| by
      obtain hn | he := h.pulse
      · rw [hn] at hp; cases hp
      · rwa [he] at hp }
  settings := { State.SameSettings.refl s with detector := h.settings }
  conversions := rfl
  port := rfl

theorem State.quiet_eng {s : State} {e : Engine} (h : s.eng.Within e) (home : e.home = s.eng.home) :
    s.Quiet { s with eng := e } := ⟨State.sustains_eng h, rfl, home⟩

/-- The traverse controller's plan, counters, thresholds and positions lie within their limits (R69, R93, R94, R97, R98, R105). -/
structure Traverse.InRange (t : Traverse) : Prop where
  remaining : t.remaining ≤ 65535
  openPlan : t.counted = false → t.remaining = 0
  passNumber : t.passNo < 2 ^ 32
  broken : t.broken ≤ 65535
  direction : t.ctl = .running → t.dir ≠ none
  span : -(2 ^ 47 - 1) ≤ t.sLo ∧ t.sLo < t.sHi ∧ t.sHi ≤ 2 ^ 47 - 1
  speeds : (1 ≤ t.vStart ∧ t.vStart ≤ 1000000) ∧ (1 ≤ t.vRev ∧ t.vRev ≤ 1000000)
  ring : t.ring.length ≤ 17 ∧ ∀ p ∈ t.ring, mag p ≤ 2 ^ 47 - 1
  aligned : ∀ p, t.latest = some p → mag p ≤ 2 ^ 47 - 1

theorem State.LimitsSound.traverse {s : State} (h : s.LimitsSound) : s.trav.InRange := { h with }

/-- The traverse controller written. -/
theorem State.preserves_trav {s : State} {t : Traverse} (h : s.trav.InRange → t.InRange) :
    s.Preserves { s with trav := t } where
  limits hs := { h hs.traverse, hs with }
  roles hs := { hs with }
  counts hs := { hs with }

/-- The traverse controller written, its span and thresholds as they were. -/
theorem State.quiet_trav {s : State} {t : Traverse} (h : s.trav.InRange → t.InRange)
    (settings : t.sLo = s.trav.sLo ∧ t.sHi = s.trav.sHi ∧ t.vStart = s.trav.vStart ∧ t.vRev = s.trav.vRev) :
    s.Quiet { s with trav := t } where
  toPreserves := State.preserves_trav h
  settings := { State.SameSettings.refl s with traverse := settings }
  conversions := rfl
  port := rfl
  chans := rfl
  home := rfl

/-- The attention unit written. -/
theorem State.preserves_att (s : State) (a : Attention) : s.Preserves { s with att := a } where
  limits hs := { hs with }
  roles hs := { hs with }
  counts hs := { hs with }

/-- The attention unit written, its threshold, levels and actions as they were. -/
theorem State.quiet_att {s : State} {a : Attention} (h : a.threshold = s.att.threshold)
    (hs : ∀ i : Fin 16, a.sources[i].level = (s.source i).level ∧ a.sources[i].action = (s.source i).action) :
    s.Quiet { s with att := a } where
  toPreserves := State.preserves_att s a
  settings := { State.SameSettings.refl s with attention := ⟨h, hs⟩ }
  conversions := rfl
  port := rfl
  chans := rfl
  home := rfl

/-- The line table written: no invariant of limits, roles or counts speaks of it. -/
theorem State.preserves_table (s : State) (t : Table) : s.Preserves { s with table := t } where
  limits hs := { hs with }
  roles hs := { hs with }
  counts hs := { hs with }

/-- The results of a record changed by its label, its place and quotas as they were (R71). -/
theorem State.quiet_modify {s : State} {f : LineRec → LineRec}
    (h : ∀ r, (f r).label = r.label ∧ (f r).n = r.n ∧ (f r).w = r.w ∧ (f r).quotaF = r.quotaF ∧ (f r).quotaB = r.quotaB)
    (label : Nat) : s.Quiet { s with table := s.table.modify label f } where
  toPreserves := State.preserves_table s _
  settings := { State.SameSettings.refl s with
    records := by
      simp only [Table.modify, List.map_map]
      refine List.map_congr_left fun r _ => ?_
      by_cases c : r.label = label
      · simp [c, h r]
      · simp [c] }
  conversions := rfl
  port := rfl
  chans := rfl
  home := rfl

/-- The values applied and the factors written: they are no settings (R59, R63). -/
theorem State.quiet_applied (s : State) (nu : Int) (t : Option Int) (factors : Vector Int 4) :
    s.Quiet { s with comp := { s.comp with nuApplied := nu, tApplied := t, factors := factors } } where
  limits hs := { hs with compensation := { hs.compensation with } }
  roles hs := { hs with }
  counts hs := { hs with }
  settings := { State.SameSettings.refl s with }
  conversions := rfl
  port := rfl
  chans := rfl
  home := rfl

end Sys2Proof.Machine

namespace Sys2Proof.Machine

/-! ### The pass and the attention unit (R104, R105, R149, R150) -/

theorem State.quiet_note (s : State) (d : Detail) : s.Quiet (s.note d) :=
  State.quiet_att rfl fun i => by
    by_cases h : i = d.source
    · subst h
      simp [State.source, Source.raise]
    · exact State.source_note_ne s h ▸ ⟨rfl, rfl⟩

theorem Engine.within_occ (e : Engine) (o : Option Occ) : e.Within { e with occ := o } :=
  ⟨⟨rfl, rfl, rfl, rfl, rfl, rfl, rfl, rfl⟩, .refl _, .inr rfl, id⟩

/-- The occupancy written. -/
theorem State.quiet_occ (s : State) (o : Option Occ) : s.Quiet { s with eng := { s.eng with occ := o } } :=
  State.quiet_eng (s.eng.within_occ o) rfl

/-- The pulse discarded. -/
theorem State.quiet_noPulse (s : State) : s.Quiet { s with eng := { s.eng with pulse := none } } :=
  State.quiet_eng ⟨⟨rfl, rfl, rfl, rfl, rfl, rfl, rfl, rfl⟩, .refl _, .inl rfl, id⟩ rfl

theorem State.quiet_spoil (s : State) (reason : Reject) : s.Quiet (s.spoil reason) := by
  unfold State.spoil
  split
  · exact .refl s
  · split
    · exact .refl s
    · exact s.quiet_occ _

theorem State.quiet_dropPulse (s : State) (reason : Reject) : s.Quiet (s.dropPulse reason) := by
  unfold State.dropPulse
  split
  · exact .refl s
  · exact s.quiet_noPulse.trans (State.quiet_spoil _ _)

theorem LineRec.tally_place (missLimit : Int) (reason : Reject) (r : LineRec) :
    (r.tally missLimit reason).label = r.label ∧ (r.tally missLimit reason).n = r.n ∧
      (r.tally missLimit reason).w = r.w ∧ (r.tally missLimit reason).quotaF = r.quotaF ∧
      (r.tally missLimit reason).quotaB = r.quotaB := by
  unfold LineRec.tally
  dsimp only
  split <;> exact ⟨rfl, rfl, rfl, rfl, rfl⟩

theorem State.quiet_tally (s : State) (label : Nat) (reason : Reject) : s.Quiet (s.tally label reason) :=
  State.quiet_modify (LineRec.tally_place _ _) label

theorem State.quiet_vacate (s : State) : s.Quiet s.vacate := s.quiet_occ none

theorem State.quiet_closeOccupancy (s : State) (kind : EndKind) : s.Quiet (s.closeOccupancy kind) := by
  unfold State.closeOccupancy
  split
  · exact .refl s
  · exact (s.quiet_vacate.trans (State.quiet_tally _ _ _)).trans (State.quiet_note _ _)

theorem State.quiet_emptyRing (s : State) : s.Quiet s.emptyRing :=
  State.quiet_trav (fun h => { h with ring := ⟨by simp, by simp⟩ }) ⟨rfl, rfl, rfl, rfl⟩

theorem State.quiet_applyValues (s : State) (nu : Int) (t : Option Int) : s.Quiet (s.applyValues nu t) := by
  have h : s.Quiet { s with comp := { s.comp with nuApplied := nu, tApplied := t } } :=
    s.quiet_applied nu t s.comp.factors
  unfold State.applyValues
  dsimp only
  split
  · exact h.trans (State.quiet_emptyRing _)
  · exact h

theorem State.quiet_refactorAll (s : State) : s.Quiet s.refactorAll := s.quiet_applied _ _ _

theorem State.quiet_passHoldStep (s : State) : s.Quiet s.passHoldStep := by
  unfold State.passHoldStep
  split
  · exact (s.quiet_applyValues _ _).trans (State.quiet_refactorAll _)
  · exact .refl s

theorem brokenAfter_le {kind : EndKind} {n : Nat} (h : n ≤ 65535) : brokenAfter kind n ≤ 65535 := by
  unfold brokenAfter
  split
  · exact satInc_le _ _
  · exact h

theorem State.quiet_accountPlan (s : State) (kind : EndKind) (inStop : Bool) : s.Quiet (s.accountPlan kind inStop) := by
  unfold State.accountPlan
  dsimp only
  split
  · next debited =>
    have counted : s.trav.counted = true := by
      simp only [Traverse.debited, Bool.and_eq_true] at debited
      exact debited.1.1
    split
    · refine State.Quiet.trans ?_ (State.quiet_note _ _)
      exact State.quiet_trav
        (fun h => { h with
          remaining := by simp, openPlan := fun _ => rfl, broken := brokenAfter_le h.broken, direction := by simp })
        ⟨rfl, rfl, rfl, rfl⟩
    · exact State.quiet_trav
        (fun h => { h with
          remaining := (Nat.sub_le _ _).trans h.remaining
          openPlan := fun open' => absurd (counted.symm.trans open') (by simp)
          broken := brokenAfter_le h.broken })
        ⟨rfl, rfl, rfl, rfl⟩
  · exact State.quiet_trav (fun h => { h with broken := brokenAfter_le h.broken }) ⟨rfl, rfl, rfl, rfl⟩

theorem State.quiet_leaveRunning (s : State) : s.Quiet s.leaveRunning :=
  State.quiet_trav (fun h => { h with direction := by simp }) ⟨rfl, rfl, rfl, rfl⟩

theorem State.quiet_goIdle (s : State) : s.Quiet s.goIdle :=
  State.quiet_trav (fun h => { h with direction := by simp }) ⟨rfl, rfl, rfl, rfl⟩

theorem State.quiet_endPass (s : State) (kind : EndKind) (inStop : Bool) : s.Quiet (s.endPass kind inStop) := by
  unfold State.endPass
  split
  · exact ((((s.quiet_leaveRunning.trans (State.quiet_dropPulse _ _)).trans (State.quiet_closeOccupancy _ _)).trans
      (State.quiet_passHoldStep _)).trans (State.quiet_accountPlan _ _ _)).trans (State.quiet_note _ _)
  · exact .refl s

theorem State.quiet_raise (s : State) (d : Detail) : s.Quiet (s.raise d) := by
  unfold State.raise
  split
  · exact (s.quiet_note d).trans (State.quiet_endPass _ _ _)
  · exact s.quiet_note d

/-! ### Occupancy, crossings and strobes of a pass (R119 to R127) -/

theorem State.quiet_countReject (s : State) (label : Nat) (reason : Reject) : s.Quiet (s.countReject label reason) :=
  (s.quiet_tally label reason).trans (State.quiet_raise _ _)

theorem LineRec.commit_place (d : Dir) (dev : Int) (pass : Nat) (r : LineRec) :
    (r.commit d dev pass).label = r.label ∧ (r.commit d dev pass).n = r.n ∧ (r.commit d dev pass).w = r.w ∧
      (r.commit d dev pass).quotaF = r.quotaF ∧ (r.commit d dev pass).quotaB = r.quotaB := by
  unfold LineRec.commit
  dsimp only
  split
  · exact ⟨rfl, rfl, rfl, rfl, rfl⟩
  · split <;> cases d <;> exact ⟨rfl, rfl, rfl, rfl, rfl⟩

theorem State.quiet_raiseIfCompleted (s : State) (before after : LineRec) :
    s.Quiet (s.raiseIfCompleted before after) := by
  unfold State.raiseIfCompleted
  split
  · exact s.quiet_raise _
  · exact .refl s

theorem State.quiet_commit (s : State) (label : Nat) (d : Dir) (dev : Int) : s.Quiet (s.commit label d dev) := by
  have h := State.quiet_modify (s := s) (LineRec.commit_place d dev s.trav.passNo) label
  unfold State.commit
  dsimp only
  split
  · exact h
  · exact h.trans (State.quiet_raiseIfCompleted _ _ _)

theorem State.quiet_exitOccupancy (s : State) (o : Occ) (side : Side) : s.Quiet (s.exitOccupancy o side) := by
  refine s.quiet_vacate.trans ?_
  unfold State.exitOccupancy
  dsimp only
  split
  · exact State.quiet_countReject _ _ _
  · exact State.quiet_countReject _ _ _
  · split
    · exact State.quiet_commit _ _ _ _
    · exact State.quiet_countReject _ _ _

theorem State.quiet_takePendingExit (s : State) : s.Quiet s.takePendingExit := by
  unfold State.takePendingExit
  split
  · exact .refl s
  · split
    · exact .refl s
    · exact s.quiet_exitOccupancy _ _

theorem State.quiet_discardPulse (s : State) (reason : Reject) : s.Quiet (s.discardPulse reason) := by
  unfold State.discardPulse
  split
  · exact (s.quiet_dropPulse reason).trans (State.quiet_takePendingExit _)
  · exact .refl s

theorem State.quiet_takeEntry (s : State) (label : Nat) (side : Side) : s.Quiet (s.takeEntry label side) := by
  unfold State.takeEntry
  split
  · split
    · exact s.quiet_occ _
    · exact .refl s
  · exact .refl s

theorem State.quiet_takeLeave (s : State) (label : Nat) (side : Side) : s.Quiet (s.takeLeave label side) := by
  unfold State.takeLeave
  split
  · exact .refl s
  · split
    · split
      · exact s.quiet_occ _
      · exact s.quiet_exitOccupancy _ _
    · exact .refl s

theorem State.quiet_takeCrossing (belongs : Bool) (s : State) (c : Crossing) : s.Quiet (s.takeCrossing belongs c) := by
  unfold State.takeCrossing
  split
  · cases c with
    | enter label side pos => exact s.quiet_takeEntry label side
    | leave label side pos => exact s.quiet_takeLeave label side
  · exact .refl s

theorem State.quiet_stray (s : State) (pos : Option Int) : s.Quiet (s.stray pos) :=
  (State.quiet_eng (e := { s.eng with strays := satInc 65535 s.eng.strays })
    ⟨⟨rfl, rfl, rfl, rfl, rfl, rfl, rfl, rfl⟩, .refl _, .inr rfl, fun _ => satInc_le _ _⟩ rfl).trans
    (State.quiet_raise _ _)

theorem State.quiet_strobeInOccupied (s : State) (o : Occ) (dev pos : Int) (valid : Bool) (reason : Reject)
    (inBand : Bool) : s.Quiet (s.strobeInOccupied o dev pos valid reason inBand) := by
  unfold State.strobeInOccupied
  split
  · exact s.quiet_spoil _
  · split
    · exact s.quiet_spoil _
    · split
      · exact s.quiet_occ _
      · exact s.quiet_spoil _
      · exact .refl s

theorem State.quiet_matchStrobe (s : State) (pos : Option Int) (valid : Bool) (reason : Reject) (inBand : Bool) :
    s.Quiet (s.matchStrobe pos valid reason inBand) := by
  unfold State.matchStrobe
  split
  · exact s.quiet_stray _
  · split
    · exact s.quiet_stray _
    · split
      · exact .refl s
      · split
        · exact s.quiet_strobeInOccupied _ _ _ _ _ _
        · exact .refl s

theorem State.quiet_lostStrobe (s : State) : s.Quiet s.lostStrobe := by
  unfold State.lostStrobe
  split
  · exact s.quiet_spoil _
  · exact .refl s

/-! ### The aligned track and the controller's tests (R98 to R103, R118) -/

theorem saturate_bounds (p : Int) : mag (saturate p) ≤ 2 ^ 47 - 1 := by
  have h := clamp_bounds (lo := -Config.positionMax) (hi := Config.positionMax) (by decide) p
  rw [mag_eq_abs, abs_le]
  exact h

theorem State.trackPosition_bounds (s : State) (k : Nat) : mag (s.trackPosition k) ≤ 2 ^ 47 - 1 := saturate_bounds _

theorem pushPosition_within {ring : List Int} {p : Int} (hp : mag p ≤ 2 ^ 47 - 1)
    (h : ring.length ≤ 17 ∧ ∀ x ∈ ring, mag x ≤ 2 ^ 47 - 1) :
    (pushPosition ring p).length ≤ 17 ∧ ∀ x ∈ pushPosition ring p, mag x ≤ 2 ^ 47 - 1 := by
  obtain ⟨hlen, hall⟩ := h
  unfold pushPosition Config.positionRingDepth
  split
  · refine ⟨by simpa using by omega, fun x hx => ?_⟩
    obtain hx | rfl := List.mem_append.mp hx |>.imp_right List.mem_singleton.mp
    · exact hall x hx
    · exact hp
  · refine ⟨by simpa using by omega, fun x hx => ?_⟩
    obtain hx | rfl := List.mem_append.mp hx |>.imp_right List.mem_singleton.mp
    · exact hall x (List.mem_of_mem_drop hx)
    · exact hp

theorem State.quiet_notePosition (s : State) (j : Nat) {p : Int} (hp : mag p ≤ 2 ^ 47 - 1) :
    s.Quiet (s.notePosition j p) :=
  State.quiet_trav
    (fun h => { h with
      ring := by
        split
        · exact pushPosition_within hp h.ring
        · simp
      aligned := fun q hq => by cases hq; exact hp })
    ⟨rfl, rfl, rfl, rfl⟩

theorem State.quiet_startPass (s : State) (dp : Int) : s.Quiet (s.startPass dp) :=
  s.quiet_noPulse.trans <| State.quiet_trav
    (fun h => { h with passNumber := Nat.mod_lt _ (by norm_num), direction := fun _ => by simp }) ⟨rfl, rfl, rfl, rfl⟩

theorem State.quiet_testStart (s : State) (j : Nat) (p : Int) : s.Quiet (s.testStart j p) := by
  unfold State.testStart
  split
  · exact .refl s
  · split
    · exact s.quiet_startPass _
    · exact .refl s

theorem State.quiet_testEnd (s : State) (p : Int) : s.Quiet (s.testEnd p) := by
  unfold State.testEnd
  split
  · exact s.quiet_endPass _ _
  · split
    · exact s.quiet_endPass _ _
    · exact .refl s

theorem State.quiet_testTraverse (s : State) (j : Nat) (p : Int) : s.Quiet (s.testTraverse j p) := by
  unfold State.testTraverse
  split
  · exact .refl s
  · exact s.quiet_testStart j p
  · exact s.quiet_testEnd p

theorem State.quiet_testUnlessEnded (s : State) (ctl : Ctl) (j : Nat) (p : Int) :
    s.Quiet (s.testUnlessEnded ctl j p) := by
  unfold State.testUnlessEnded
  split
  · exact s.quiet_testTraverse j p
  · exact .refl s

theorem State.quiet_checkWidth (s : State) (p : Int) : s.Quiet (s.checkWidth p) := by
  obtain h | h := s.checkWidth_cases p <;> rw [h]
  · exact .refl s
  · exact s.quiet_discardPulse _

theorem State.quiet_checkSound (s : State) (j : Nat) : s.Quiet (s.checkSound j) := by
  obtain h | h | h := s.checkSound_cases j <;> rw [h]
  · exact .refl s
  · exact s.quiet_discardPulse _
  · exact s.quiet_discardPulse _

/-- The bookkeeping of the tracks is in no invariant; only the real-time position is (R69). -/
theorem State.quiet_tracks {s : State} {t : Tracks} (h : ∀ p, t.rt = some p → s.tracks.rt = some p ∨ mag p ≤ 2 ^ 47 - 1) :
    s.Quiet { s with tracks := t } where
  limits hs := { hs with realTime := fun p hp => (h p hp).elim (hs.realTime p) id }
  roles hs := { hs with }
  counts hs := { hs with }
  settings := { State.SameSettings.refl s with }
  conversions := rfl
  port := rfl
  chans := rfl
  home := rfl

theorem State.quiet_formPosition (s : State) (j : Nat) {p : Int} (hp : mag p ≤ 2 ^ 47 - 1) :
    s.Quiet (s.formPosition j p) :=
  ((State.quiet_tracks (t := { s.tracks with alignedNext := j + 1 }) fun _ h => .inl h).trans
    (State.quiet_notePosition _ j hp)).trans (State.quiet_checkWidth _ p)

theorem State.quiet_formRealTime (s : State) : s.Quiet s.formRealTime := by
  obtain h | ⟨-, h⟩ := s.formRealTime_cases <;> rw [h]
  · exact .refl s
  · exact State.quiet_tracks fun p hp => .inr (by cases hp; exact s.trackPosition_bounds _)

theorem State.quiet_advanceAligned (s : State) : s.Quiet s.advanceAligned := by
  unfold State.advanceAligned
  split
  · exact State.quiet_tracks fun _ h => .inl h
  · exact .refl s

theorem State.quiet_advanceTracks (s : State) : s.Quiet s.advanceTracks :=
  s.quiet_formRealTime.trans (State.quiet_advanceAligned _)

end Sys2Proof.Machine

namespace Sys2Proof.Machine

/-! ### A channel written -/

/-- Channels with the same settings (R21, R26). -/
def Channel.SameSettings (ch ch' : Channel) : Prop :=
  ch'.role = ch.role ∧ ch'.sense = ch.sense ∧ ch'.passK = ch.passK ∧ ch'.lambda = ch.lambda ∧ ch'.datum = ch.datum ∧
    ch'.source = ch.source ∧ ch'.step = ch.step ∧ ch'.codes = ch.codes ∧ ch'.mon = ch.mon

theorem Channel.SameSettings.trans {a b c : Channel} (h : a.SameSettings b) (h' : b.SameSettings c) :
    a.SameSettings c := by
  unfold Channel.SameSettings at *
  simp only [h, h', and_self]

theorem Channel.SettingsInRange.of_same {ch ch' : Channel} (h : ch.SettingsInRange) (same : ch.SameSettings ch') :
    ch'.SettingsInRange := by
  obtain ⟨-, -, hk, hl, hd, -, hs, hc, hm⟩ := same
  exact ⟨by rw [hk]; exact h.passK, by rw [hl]; exact h.lambda, by rw [hd]; exact h.datum, by rw [hs]; exact h.step,
    by rw [hc]; exact h.codes, by rw [hm]; exact h.monitor⟩

theorem State.LimitsSound.setChan {s : State} (h : s.LimitsSound) {c : Fin 4} {ch : Channel} (hc : ch.SettingsInRange) :
    (s.setChan c ch).LimitsSound :=
  { h with
    channels := fun c' => by
      rw [State.chan_setChan]
      split
      · exact hc
      · exact h.channels c' }

theorem State.CountsSound.setChan {s : State} (h : s.CountsSound) {c : Fin 4} {ch : Channel} (hc : ch.Sound) :
    (s.setChan c ch).CountsSound :=
  { h with
    channels := fun c' => by
      rw [State.chan_setChan]
      split
      · exact hc
      · exact h.channels c' }

/-- Roles read after a channel of the same role is written. -/
theorem State.role_setChan {s : State} {c : Fin 4} {ch : Channel} (h : ch.role = (s.chan c).role) (c' : Fin 4) :
    ((s.setChan c ch).chan c').role = (s.chan c').role := by
  rw [State.chan_setChan]
  split
  · next e => rw [e, h]
  · rfl

/-- The roles of R20 are those of the channels and of the index source; only the anchor speaks of anything else. -/
theorem State.RolesSound.congr {s t : State} (h : s.RolesSound) (roles : ∀ c, (t.chan c).role = (s.chan c).role)
    (source : t.comp.source = s.comp.source)
    (anchor : t.comp.anchor ≠ none → ∃ c : Fin 4, (t.chan c).role = .tracker ∧ (t.chan c).state = .tracking) :
    t.RolesSound := by
  refine ⟨?_, ?_, ?_, ?_, anchor⟩ <;> simp only [roles, source]
  · exact h.measure
  · exact h.partner
  · exact h.tracker
  · exact h.source

theorem State.sameSettings_setChan {s : State} {c : Fin 4} {ch : Channel} (h : (s.chan c).SameSettings ch) :
    s.SameSettings (s.setChan c ch) :=
  { State.SameSettings.refl s with
    channels := fun c' => by
      rw [State.chan_setChan]
      split
      · next e => exact e ▸ h
      · exact (State.SameSettings.refl s).channels c' }

/-- Roles stay sound where a channel keeps its role and does not leave TRACKING. -/
theorem State.RolesSound.setChan {s : State} (hs : s.RolesSound) {c : Fin 4} {ch : Channel}
    (role : ch.role = (s.chan c).role) (state : (s.chan c).state = .tracking → ch.state = .tracking) :
    (s.setChan c ch).RolesSound :=
  hs.congr (State.role_setChan role) rfl fun ha => by
    obtain ⟨t, htr, hts⟩ := hs.anchor ha
    refine ⟨t, by rw [State.role_setChan role, htr], ?_⟩
    rw [State.chan_setChan]
    split
    · next e => exact state (e ▸ hts)
    · exact hts

/-- A channel written with its settings as they were, and not out of TRACKING. -/
theorem State.keeps_setChan {s : State} {c : Fin 4} {ch : Channel} (h : (s.chan c).SameSettings ch)
    (state : (s.chan c).state = .tracking → ch.state = .tracking) : s.Keeps (s.setChan c ch) where
  limits hs := hs.setChan ((hs.channels c).of_same h)
  roles hs := hs.setChan h.1 state
  settings := State.sameSettings_setChan h
  conversions := rfl
  port := rfl

/-! ### HOME (R129) -/

theorem State.keeps_setOrigin (s : State) (c : Fin 4) (o : Int) : s.Keeps (s.setOrigin c o) :=
  State.keeps_setChan ⟨rfl, rfl, rfl, rfl, rfl, rfl, rfl, rfl, rfl⟩ id

theorem State.homing_setOrigin (s : State) (c : Fin 4) (o : Int) (armed : s.eng.home = true) :
    s.Homing (s.setOrigin c o) where
  toKeeps := s.keeps_setOrigin c o
  origins c' := by
    simp only [State.setOrigin, State.chan_setChan]
    split
    · next e => rw [e]
    · rfl
  unarmed hs := by simp [armed] at hs

theorem State.homing_setOrigins (s : State) (rawM rawP : Int) (armed : s.eng.home = true) :
    s.Homing (s.setOrigins rawM rawP) := by
  unfold State.setOrigins
  split
  · exact s.homing_setOrigin 0 rawM armed
  · exact (s.homing_setOrigin 0 rawM armed).trans (State.homing_setOrigin _ _ _ armed)

/-- HOME disarmed. -/
theorem State.homing_disarm (s : State) : s.Homing { s with eng := { s.eng with home := false } } :=
  ⟨(State.sustains_eng (e := { s.eng with home := false })
    ⟨⟨rfl, rfl, rfl, rfl, rfl, rfl, rfl, rfl⟩, .refl _, .inr rfl, id⟩).toKeeps, fun _ => rfl, fun _ => ⟨rfl, rfl⟩⟩

theorem State.homing_offerHome (s : State) (homeValid : Bool) (rawM rawP : Int) :
    s.Homing (s.offerHome homeValid rawM rawP) := by
  unfold State.offerHome
  split
  · next h =>
    have armed : s.eng.home = true := by
      simp only [Bool.and_eq_true] at h
      exact h.1.1.1
    exact ((s.homing_setOrigins rawM rawP armed).trans (State.homing_disarm _)).trans
      ((State.quiet_emptyRing _).trans (State.quiet_raise _ _)).homing
  · exact .refl s

/-! ### Pulses, edges and segments (R117 to R122) -/

/-- A new pulse is in no invariant of limits or roles. -/
theorem State.homing_pulse (s : State) (p : Option OpenPulse) : s.Homing { s with eng := { s.eng with pulse := p } } where
  limits hs := { hs with }
  roles hs := { hs with }
  settings := { State.SameSettings.refl s with }
  conversions := rfl
  port := rfl
  origins _ := rfl
  unarmed hs := ⟨rfl, hs⟩

/-- A leading edge opens no pulse, or opens one, or opens one that is discarded at once (R117). -/
theorem State.openPulse_cases (s : State) (l : Latched) :
    s.openPulse l = s ∨
      (s.openPulse l = { s with eng := { s.eng with pulse := some ⟨l, !s.running⟩ } } ∨
        s.openPulse l = { s with eng := { s.eng with pulse := some ⟨l, !s.running⟩ } }.discardPulse l.reason) := by
  unfold State.openPulse
  by_cases h : (s.running || s.eng.home) = true
  · rw [if_pos h]
    exact .inr (ite_eq_or_eq _ _ _)
  · exact .inl (if_neg h)

theorem State.homing_openPulse (s : State) (l : Latched) : s.Homing (s.openPulse l) := by
  have opened := s.homing_pulse (some ⟨l, !s.running⟩)
  obtain h | h | h := s.openPulse_cases l <;> rw [h]
  · exact .refl s
  · exact opened
  · exact opened.trans (State.quiet_discardPulse _ _).homing

theorem State.homing_closePulse (belongs : Bool) (s : State) (p : OpenPulse) (l : Latched) :
    s.Homing (s.closePulse belongs p l) := by
  refine s.quiet_noPulse.homing.trans ?_
  unfold State.closePulse
  dsimp only
  split
  · exact ((State.quiet_matchStrobe _ _ _ _ _).trans (State.quiet_takePendingExit _)).homing
  · split
    · exact State.homing_offerHome _ _ _ _
    · exact .refl _

theorem State.homing_takeEdge (belongs : Bool) (s : State) (e : Edge) : s.Homing (s.takeEdge belongs e) := by
  unfold State.takeEdge
  dsimp only
  split
  · split
    · exact (s.quiet_matchStrobe _ _ _ _).homing
    · exact s.homing_offerHome _ _ _
  · exact (s.quiet_discardPulse _).homing.trans (State.homing_openPulse _ _)
  · split
    · exact .refl s
    · exact s.homing_closePulse belongs _ _

theorem State.homing_takeInOrder (belongs up : Bool) (s : State) (es : List Edge) (cs : List Crossing) :
    s.Homing (s.takeInOrder belongs up es cs) := by
  induction es generalizing s cs with
  | nil => exact (State.Quiet.foldl (State.quiet_takeCrossing belongs) cs s).homing
  | cons e es ih =>
    exact ((State.Quiet.foldl (State.quiet_takeCrossing belongs) _ s).homing.trans
      (State.homing_takeEdge belongs _ e)).trans (ih _ _)

/-- Edges leave the latch list. -/
theorem State.quiet_latches_filter (s : State) (p : Edge → Bool) :
    s.Quiet { s with eng := { s.eng with latches := s.eng.latches.filter p } } :=
  State.quiet_eng ⟨⟨rfl, rfl, rfl, rfl, rfl, rfl, rfl, rfl⟩, List.filter_sublist, .inr rfl, id⟩ rfl

theorem State.homing_takeSegment (belongs : Bool) (s : State) (j : Nat) (p0 p1 : Int) :
    s.Homing (s.takeSegment belongs j p0 p1) :=
  (s.quiet_latches_filter _).homing.trans (State.homing_takeInOrder _ _ _ _ _)

/-! ### The aligned track (R113) -/

/-- The latch list mapped edge by edge: no invariant of limits or roles speaks of an edge. -/
theorem State.homing_latches {s : State} {es : List Edge} (h : s.eng.latches.length ≤ 64 → es.length ≤ 64) :
    s.Homing { s with eng := { s.eng with latches := es } } where
  limits hs := { hs with latches := h hs.latches }
  roles hs := { hs with }
  settings := { State.SameSettings.refl s with }
  conversions := rfl
  port := rfl
  origins _ := rfl
  unarmed hs := ⟨rfl, hs⟩

theorem State.homing_completeLatches (s : State) : s.Homing s.completeLatches :=
  State.homing_latches fun h => by simpa using h

/-- An aligned sample: the latches are completed, the position is formed and tested, a segment may be taken, and the pulse still
open is checked (R113). -/
theorem State.reachAligned_cases (s : State) :
    ∃ u, s.completeLatches.Quiet u ∧ (s.reachAligned = u.checkSound s.tracks.alignedNext ∨
      ∃ belongs p0 p1, s.reachAligned =
        (u.takeSegment belongs s.tracks.alignedNext p0 p1).checkSound s.tracks.alignedNext) := by
  refine ⟨_, (State.quiet_formPosition s.completeLatches s.tracks.alignedNext
    (s.completeLatches.trackPosition_bounds s.tracks.alignedNext)).trans
    (State.quiet_testUnlessEnded _ s.completeLatches.trav.ctl s.tracks.alignedNext
      (s.completeLatches.trackPosition s.tracks.alignedNext)), ?_⟩
  unfold State.reachAligned
  dsimp only
  split
  · exact .inl rfl
  · exact .inr ⟨_, _, _, rfl⟩

theorem State.homing_reachAligned (s : State) : s.Homing s.reachAligned := by
  obtain ⟨u, hu, h | ⟨belongs, p0, p1, h⟩⟩ := s.reachAligned_cases <;> rw [h]
  · exact s.homing_completeLatches.trans (hu.trans (State.quiet_checkSound _ _)).homing
  · exact (s.homing_completeLatches.trans hu.homing).trans
      ((State.homing_takeSegment _ _ _ _ _).trans (State.quiet_checkSound _ _).homing)

theorem State.homing_reachDue (n : Nat) (s : State) : s.Homing (s.reachDue n) := by
  induction n generalizing s with
  | zero => exact .refl s
  | succ n ih =>
    unfold State.reachDue
    split
    · exact s.homing_reachAligned.trans (ih _)
    · exact .refl s

theorem State.homing_takeDue (s : State) : s.Homing s.takeDue :=
  s.homing_completeLatches.trans (State.homing_reachDue _ _)

theorem State.homing_dueFirst (s : State) (c : Fin 4) : s.Homing (s.dueFirst c) := by
  unfold State.dueFirst
  split
  · exact s.homing_takeDue
  · exact .refl s

end Sys2Proof.Machine

namespace Sys2Proof.Machine

/-! ### Raw eighth-counts (R16, R115) -/

/-- Between two counts of the range the raw eighth-count stays in the range of an origin (R115). -/
theorem rawEighth_bounds {q0 q1 fine : Int} (h0 : mag q0 ≤ 2 ^ 39 - 1) (h1 : mag q1 ≤ 2 ^ 39 - 1)
    (hf : 0 ≤ fine ∧ fine ≤ 7) : mag (rawEighth q0 q1 fine) ≤ 8 * (2 ^ 39 - 1) := by
  rw [mag_eq_abs, abs_le] at *
  obtain ⟨lo, hi⟩ := hf
  have weights : rawEighth q0 q1 fine = (8 - fine) * q0 + fine * q1 := by
    unfold rawEighth
    ring
  rw [weights]
  constructor <;> nlinarith

theorem Channel.Sound.qAt {ch : Channel} (h : ch.Sound) (k : Nat) : mag (ch.qAt k) ≤ 2 ^ 39 - 1 := by
  unfold Channel.qAt
  split
  · exact h.count
  · split
    · next e he => exact (h.history.2 e (List.mem_of_find?_eq_some he)).2
    · exact h.count

theorem Channel.Sound.rawAt {ch : Channel} (h : ch.Sound) {e : Edge} (hf : 0 ≤ e.fine ∧ e.fine ≤ 7) :
    mag (ch.rawAt e) ≤ 8 * (2 ^ 39 - 1) := rawEighth_bounds (h.qAt _) (h.qAt _) hf

theorem Latched.inRange_zero {l : Latched} (hM : l.rawM = 0) (hP : l.rawP = 0) : l.InRange := by
  unfold Latched.InRange
  rw [hM, hP]
  decide

/-- A latch that completes has its raw eighth-counts in range (R115). -/
theorem State.latchOf_inRange {s : State} (h : s.CountsSound) {e : Edge} (hf : 0 ≤ e.fine ∧ e.fine ≤ 7) {l : Latched}
    (hl : s.latchOf e = some l) : l.InRange := by
  unfold State.latchOf at hl
  dsimp only at hl
  split at hl
  · cases hl
    exact Latched.inRange_zero rfl rfl
  · split at hl
    · cases hl
    · cases hl
      refine ⟨(h.channels 0).rawAt hf, ?_⟩
      dsimp only
      split
      · decide
      · exact (h.channels _).rawAt hf

/-- What `CountsSound` says of one edge. -/
def Edge.Sound (e : Edge) : Prop := (0 ≤ e.fine ∧ e.fine ≤ 7) ∧ ∀ l, e.latch = some l → l.InRange

theorem State.CountsSound.completeEdge {s : State} (h : s.CountsSound) {e : Edge} (he : e.Sound) :
    (s.completeEdge e).Sound := by
  unfold State.completeEdge
  split
  · exact he
  · exact ⟨he.1, fun l hl => State.latchOf_inRange h he.1 hl⟩

theorem Edge.Sound.latched {e : Edge} (h : e.Sound) : e.latched.InRange := by
  unfold Edge.latched
  cases hl : e.latch with
  | none => exact Latched.inRange_zero rfl rfl
  | some l => exact h.2 l hl

/-- The centre of two raw eighth-counts stays in their range (R117, R129). -/
theorem divNearest_two_bounds {a b top : Int} (ha : mag a ≤ top) (hb : mag b ≤ top) :
    mag (divNearest (a + b) 2) ≤ top := by
  rw [mag_eq_abs, abs_le] at *
  unfold divNearest
  omega

/-! ### The counts along the registration engine -/

/-- An origin set on a TRACKING channel (R16, R17, R129). -/
theorem Channel.Sound.withOrigin {ch : Channel} (h : ch.Sound) (tracking : ch.state = .tracking) {o : Int}
    (ho : mag o ≤ 8 * (2 ^ 39 - 1)) (nu : Int) : { ch with origin := o, referenced := true, nu0 := nu }.Sound :=
  { h with
    origin := ho
    footing := fun _ => .inl (by simp [tracking, ChState.name]) }

theorem State.CountsSound.setOrigin {s : State} (h : s.CountsSound) {c : Fin 4} (tracking : (s.chan c).state = .tracking)
    {o : Int} (ho : mag o ≤ 8 * (2 ^ 39 - 1)) : (s.setOrigin c o).CountsSound :=
  h.setChan ((h.channels c).withOrigin tracking ho _)

theorem State.CountsSound.setOrigins {s : State} (h : s.CountsSound) (measure : s.measure.tracking = true)
    (partner : s.partnerMeets Channel.tracking = true) {rawM rawP : Int} (hM : mag rawM ≤ 8 * (2 ^ 39 - 1))
    (hP : mag rawP ≤ 8 * (2 ^ 39 - 1)) : (s.setOrigins rawM rawP).CountsSound := by
  have hm : (s.chan 0).state = .tracking := of_decide_eq_true measure
  unfold State.setOrigins
  unfold State.partnerMeets at partner
  split
  · exact h.setOrigin hm hM
  · next c hc =>
    rw [hc] at partner
    refine (h.setOrigin hm hM).setOrigin ?_ hP
    rw [State.setOrigin, State.chan_setChan]
    split
    · exact hm
    · exact of_decide_eq_true partner

theorem State.CountsSound.offerHome {s : State} (h : s.CountsSound) (homeValid : Bool) {rawM rawP : Int}
    (hM : mag rawM ≤ 8 * (2 ^ 39 - 1)) (hP : mag rawP ≤ 8 * (2 ^ 39 - 1)) :
    (s.offerHome homeValid rawM rawP).CountsSound := by
  unfold State.offerHome
  split
  · next qualifies =>
    simp only [Bool.and_eq_true] at qualifies
    obtain ⟨⟨⟨-, -⟩, measure⟩, partner⟩ := qualifies
    have set := h.setOrigins measure partner hM hP
    exact ((State.quiet_emptyRing _).trans (State.quiet_raise _ _)).counts { set with }
  · exact h

theorem State.CountsSound.withPulse {s : State} (h : s.CountsSound) {p : OpenPulse} (hp : p.lead.InRange) :
    { s with eng := { s.eng with pulse := some p } }.CountsSound :=
  { h with pulse := fun q hq => by cases hq; exact hp }

theorem State.CountsSound.openPulse {s : State} (h : s.CountsSound) {l : Latched} (hl : l.InRange) :
    (s.openPulse l).CountsSound := by
  have opened := h.withPulse (p := ⟨l, !s.running⟩) hl
  obtain e | e | e := s.openPulse_cases l <;> rw [e]
  · exact h
  · exact opened
  · exact (State.quiet_discardPulse _ _).counts opened

theorem State.CountsSound.closePulse {s : State} (h : s.CountsSound) (belongs : Bool) {p : OpenPulse} {l : Latched}
    (hp : p.lead.InRange) (hl : l.InRange) : (s.closePulse belongs p l).CountsSound := by
  have closed := s.quiet_noPulse.counts h
  unfold State.closePulse
  dsimp only
  split
  · exact ((State.quiet_matchStrobe _ _ _ _ _).trans (State.quiet_takePendingExit _)).counts closed
  · split
    · exact closed.offerHome _ (divNearest_two_bounds hp.1 hl.1) (divNearest_two_bounds hp.2 hl.2)
    · exact closed

theorem State.CountsSound.takeEdge {s : State} (h : s.CountsSound) (belongs : Bool) {e : Edge} (he : e.latched.InRange) :
    (s.takeEdge belongs e).CountsSound := by
  unfold State.takeEdge
  dsimp only
  split
  · split
    · exact (s.quiet_matchStrobe _ _ _ _).counts h
    · exact h.offerHome _ he.1 he.2
  · exact ((s.quiet_discardPulse _).counts h).openPulse he
  · split
    · exact h
    · next p hp => exact h.closePulse belongs (h.pulse p hp) he

theorem State.CountsSound.takeInOrder {s : State} (h : s.CountsSound) (belongs up : Bool) {es : List Edge}
    (hes : ∀ e ∈ es, e.latched.InRange) (cs : List Crossing) : (s.takeInOrder belongs up es cs).CountsSound := by
  induction es generalizing s cs with
  | nil => exact (State.Quiet.foldl (State.quiet_takeCrossing belongs) cs s).counts h
  | cons e es ih =>
    have crossed := (State.Quiet.foldl (State.quiet_takeCrossing belongs) (cs.takeWhile (e.precededBy up)) s).counts h
    exact ih (crossed.takeEdge belongs (hes e (by simp))) (fun x hx => hes x (by simp [hx])) _

theorem mem_insertByInstant {e x : Edge} {es : List Edge} (h : x ∈ insertByInstant e es) : x = e ∨ x ∈ es := by
  induction es with
  | nil => simpa [insertByInstant] using h
  | cons y ys ih =>
    unfold insertByInstant at h
    split at h
    · simpa using h
    · obtain rfl | h := List.mem_cons.mp h
      · simp
      · exact (ih h).imp_right (List.mem_cons_of_mem y)

/-- The order of a segment takes the edges of its list and no other (R120). -/
theorem mem_of_mem_sortEdges {es : List Edge} {x : Edge} (h : x ∈ sortEdges es) : x ∈ es := by
  have inserted : ∀ (es acc : List Edge), x ∈ es.foldl (fun acc e => insertByInstant e acc) acc → x ∈ acc ∨ x ∈ es := by
    intro es
    induction es with
    | nil => exact fun acc h => .inl h
    | cons e es ih =>
      intro acc h
      obtain h | h := ih _ h
      · obtain rfl | h := mem_insertByInstant h
        · exact .inr (by simp)
        · exact .inl h
      · exact .inr (by simp [h])
  exact (inserted es [] h).resolve_left (by simp)

theorem State.CountsSound.takeSegment {s : State} (h : s.CountsSound) (belongs : Bool) (j : Nat) (p0 p1 : Int) :
    (s.takeSegment belongs j p0 p1).CountsSound := by
  refine ((s.quiet_latches_filter _).counts h).takeInOrder _ _ (fun e he => ?_) _
  exact Edge.Sound.latched (h.edges e (List.mem_of_mem_filter (mem_of_mem_sortEdges he)))

theorem State.CountsSound.completeLatches {s : State} (h : s.CountsSound) : s.completeLatches.CountsSound :=
  { h with
    edges := fun e he => by
      obtain ⟨x, hx, rfl⟩ := List.mem_map.mp he
      exact h.completeEdge (h.edges x hx) }

theorem State.CountsSound.reachAligned {s : State} (h : s.CountsSound) : s.reachAligned.CountsSound := by
  obtain ⟨u, hu, e | ⟨belongs, p0, p1, e⟩⟩ := s.reachAligned_cases <;> rw [e]
  · exact (State.quiet_checkSound _ _).counts (hu.counts h.completeLatches)
  · exact (State.quiet_checkSound _ _).counts ((hu.counts h.completeLatches).takeSegment _ _ _ _)

theorem State.CountsSound.reachDue {s : State} (h : s.CountsSound) (n : Nat) : (s.reachDue n).CountsSound := by
  induction n generalizing s with
  | zero => exact h
  | succ n ih =>
    unfold State.reachDue
    split
    · exact ih h.reachAligned
    · exact h

theorem State.CountsSound.dueFirst {s : State} (h : s.CountsSound) (c : Fin 4) : (s.dueFirst c).CountsSound := by
  unfold State.dueFirst
  split
  · exact h.completeLatches.reachDue _
  · exact h

theorem State.sustains_reachAligned (s : State) : s.Sustains s.reachAligned :=
  s.homing_reachAligned.toKeeps.sustains fun h => h.reachAligned

theorem State.sustains_dueFirst (s : State) (c : Fin 4) : s.Sustains (s.dueFirst c) :=
  (s.homing_dueFirst c).toKeeps.sustains fun h => h.dueFirst c

end Sys2Proof.Machine

namespace Sys2Proof.Machine

/-! ### One sample of a channel (R4 to R15) -/

/-- A corrected coordinate lies in the sixteen bits of stage 4 (R6). -/
theorem Codes.correct_bounds (c : Codes) (sin cos : Int) :
    (-32768 ≤ (c.correct sin cos).1 ∧ (c.correct sin cos).1 ≤ 32767) ∧
      (-32768 ≤ (c.correct sin cos).2 ∧ (c.correct sin cos).2 ≤ 32767) :=
  ⟨clamp_bounds (by decide) _, clamp_bounds (by decide) _⟩

/-- The radius is the integer square root of x² + y² (R9). -/
theorem radiusOf_spec {x y : Int} (hx : -32768 ≤ x ∧ x ≤ 32767) (hy : -32768 ≤ y ∧ y ≤ 32767) :
    (0 ≤ radiusOf x y ∧ radiusOf x y ≤ 46340) ∧ radiusOf x y * radiusOf x y ≤ x * x + y * y ∧
      x * x + y * y < (radiusOf x y + 1) * (radiusOf x y + 1) := by
  have sum : x * x + y * y ≤ 2 ^ 31 := by nlinarith
  obtain ⟨meets, -, below, next⟩ := greatest_spec (fun r => decide ((r : Int) * r ≤ x * x + y * y)) 16 0
    (decide_eq_true (by simpa using add_nonneg (mul_self_nonneg x) (mul_self_nonneg y)))
  unfold radiusOf
  set r := greatest (fun r => decide ((r : Int) * r ≤ x * x + y * y)) 16 0
  have square : (r : Int) * r ≤ x * x + y * y := of_decide_eq_true meets
  have top : (r : Int) ≤ 46340 := by
    by_contra above
    nlinarith
  refine ⟨⟨by positivity, top⟩, square, ?_⟩
  have fails := of_decide_eq_false (next (by omega))
  push_cast at fails
  omega

theorem phaseOf_bounds (x y : Int) : 0 ≤ phaseOf x y ∧ phaseOf x y ≤ 4095 := by
  unfold phaseOf
  omega

/-- Stages 1 to 3 leave a phase and a radius in their ranges (R5, R8, R9). -/
theorem Channel.point_bounds (ch : Channel) (x : SampleIn) (h : 0 ≤ ch.phiOld ∧ ch.phiOld ≤ 4095) :
    (0 ≤ (ch.point x).phi ∧ (ch.point x).phi ≤ 4095) ∧ (0 ≤ (ch.point x).r ∧ (ch.point x).r ≤ 46340) := by
  unfold Channel.point
  split
  · obtain ⟨hx, hy⟩ := ch.codes.correct_bounds x.sin.toInt x.cos.toInt
    refine ⟨?_, (radiusOf_spec hx hy).1⟩
    simp only [portPoint]
    split
    · exact h
    · exact phaseOf_bounds _ _
  · simp only [synPoint, Channel.synAdvanced]
    omega

/-- What a sample's stages 1 to 4 leave of a channel: its point, beam flag and saturation watch are new. -/
def Channel.watched (ch : Channel) (p : Point) : Channel := ((ch.took p).judged p).watchSat p

theorem Channel.count_eq (ch : Channel) (x : SampleIn) :
    ch.count x = { (ch.watched (ch.point x)).countStep (ch.point x) with
      ch := ((ch.watched (ch.point x)).countStep (ch.point x)).ch.entered x.k } := rfl

/-- The fields that stages 1 to 4 write (R4, R25, R39). -/
theorem Channel.watched_eq (ch : Channel) (p : Point) :
    ch.watched p = { ch with
      x := p.x, y := p.y, phi := p.phi, r := p.r, synPhase := (ch.watched p).synPhase, beam := !ch.mon.dark p.r
      sat := (ch.watched p).sat, overRun := (ch.watched p).overRun, calmRun := (ch.watched p).calmRun } := by
  unfold Channel.watched Channel.watchSat
  split <;> split <;> rfl

theorem Channel.watched_next (ch : Channel) (p : Point) : (ch.watched p).next = ch.next := by
  rw [ch.watched_eq]

/-- The fields that stages 5 and 6 may write, with φ, x′, y′ and r as they stand: the others, the settings among them, stay. -/
def Channel.CountsTo (ch ch' : Channel) : Prop :=
  ch' = { ch with
    q := ch'.q, phiOld := ch'.phiOld, ring := ch'.ring, state := ch'.state, loss := ch'.loss
    referenced := ch'.referenced, settleRun := ch'.settleRun }

theorem Channel.CountsTo.next {ch ch' : Channel} (h : ch.CountsTo ch') : ch'.next = ch.next := by
  rw [show ch' = _ from h]

theorem Channel.countsTo_unwrap (ch : Channel) (phi : Int) : ch.CountsTo (ch.unwrap phi).ch := by
  unfold Channel.unwrap
  dsimp only
  split
  · rfl
  · split <;> rfl

theorem Channel.countsTo_settleStep (ch : Channel) (p : Point) : ch.CountsTo (ch.settleStep p).ch := by
  unfold Channel.settleStep
  split
  · exact Channel.countsTo_unwrap { ch with settleRun := 0, state := .tracking } p.phi
  · rfl

theorem Channel.countsTo_extrapolate (ch : Channel) (a : CoastAnchor) (phi : Int) :
    ch.CountsTo (ch.extrapolate a phi).ch := by
  unfold Channel.extrapolate
  split <;> rfl

theorem Channel.countsTo_bridgeStep (ch : Channel) (a : CoastAnchor) (phi : Int) :
    ch.CountsTo (ch.bridgeStep a phi).ch := by
  unfold Channel.bridgeStep
  dsimp only
  split
  · rfl
  · split <;> rfl

theorem Channel.countsTo_coastStep (ch : Channel) (a : CoastAnchor) (p : Point) : ch.CountsTo (ch.coastStep a p).ch := by
  unfold Channel.coastStep
  split
  · exact ch.countsTo_bridgeStep _ _
  · split
    · rfl
    · exact ch.countsTo_extrapolate _ _

theorem Channel.countsTo_trackStep (ch : Channel) (p : Point) : ch.CountsTo (ch.trackStep p).ch := by
  unfold Channel.trackStep
  split
  · exact ch.countsTo_extrapolate _ _
  · exact ch.countsTo_unwrap _

theorem Channel.countsTo_countStep (ch : Channel) (p : Point) : ch.CountsTo (ch.countStep p).ch := by
  unfold Channel.countStep
  split
  · rfl
  · exact ch.countsTo_settleStep p
  · exact ch.countsTo_trackStep p
  · exact ch.countsTo_coastStep _ p
  · exact ch.countsTo_settleStep p

/-- A sample is no request: it leaves every setting of its channel (R21, R26). -/
theorem Channel.sameSettings_count (ch : Channel) (x : SampleIn) : ch.SameSettings (ch.count x).ch := by
  have watched : ch.SameSettings (ch.watched (ch.point x)) := by
    rw [ch.watched_eq]
    exact ⟨rfl, rfl, rfl, rfl, rfl, rfl, rfl, rfl, rfl⟩
  refine watched.trans ?_
  rw [ch.count_eq, (ch.watched (ch.point x)).countsTo_countStep (ch.point x)]
  exact ⟨rfl, rfl, rfl, rfl, rfl, rfl, rfl, rfl, rfl⟩

/-! ### The channel stays sound (R8 to R16) -/

theorem pushRing_sound {ring : List Int} {x : Int} (h : ring.length = 16 ∧ ∀ y ∈ ring, mag y ≤ 1536)
    (hx : mag x ≤ 1536) : (pushRing ring x).length = 16 ∧ ∀ y ∈ pushRing ring x, mag y ≤ 1536 := by
  obtain ⟨hlen, hall⟩ := h
  refine ⟨by rw [pushRing_length (List.ne_nil_of_length_pos (by omega)), hlen], fun y hy => ?_⟩
  obtain hy | rfl := List.mem_append.mp hy |>.imp_right List.mem_singleton.mp
  · exact hall y (List.mem_of_mem_drop hy)
  · exact hx

theorem limited_bounds (q : Int) : mag (limited q) ≤ 2 ^ 39 - 1 := by
  unfold limited
  split <;> decide

theorem mag_le_of_not_outOfRange {q : Int} (h : ¬outOfRange q = true) : mag q ≤ 2 ^ 39 - 1 :=
  not_lt.mp fun out => h (decide_eq_true out)

theorem mag_sense_mul (sense : Sense) (d : Int) : mag (sense.toInt * d) = mag d := by
  rw [mag_eq_abs, mag_eq_abs]
  cases sense <;> simp [Sense.toInt]

theorem Channel.Sound.lose {ch : Channel} (h : ch.Sound) (reason : Loss) {phi q : Int} (hp : 0 ≤ phi ∧ phi ≤ 4095)
    (hq : mag q ≤ 2 ^ 39 - 1) : (ch.lose reason phi q).ch.Sound :=
  { h with
    count := hq
    phase := ⟨h.phase.1, hp⟩
    ring := pushRing_sound h.ring (by decide)
    footing := by simp [Channel.lose] }

theorem Channel.Sound.unwrap {ch : Channel} (h : ch.Sound) {phi : Int} (hp : 0 ≤ phi ∧ phi ≤ 4095) :
    (ch.unwrap phi).ch.Sound := by
  unfold Channel.unwrap
  dsimp only
  split
  · exact h.lose _ hp h.count
  · next slow =>
    split
    · exact h.lose _ hp (limited_bounds _)
    · next inside =>
      exact { h with
        count := mag_le_of_not_outOfRange inside
        phase := ⟨h.phase.1, hp⟩
        ring := pushRing_sound h.ring (by
          rw [mag_sense_mul]
          exact (not_lt.mp slow).trans h.limit.2)
        footing := fun _ => .inl rfl }

theorem Channel.Sound.settleStep {ch : Channel} (h : ch.Sound) {p : Point} (hp : 0 ≤ p.phi ∧ p.phi ≤ 4095) :
    (ch.settleStep p).ch.Sound := by
  unfold Channel.settleStep
  split
  · have settled : { ch with settleRun := 0, state := .tracking }.Sound := { h with footing := fun _ => .inl rfl }
    exact settled.unwrap hp
  · exact { h with
      phase := ⟨h.phase.1, hp⟩
      ring := pushRing_sound h.ring (by decide) }

theorem Channel.Sound.extrapolate {ch : Channel} (h : ch.Sound) (a : CoastAnchor) {phi : Int}
    (hp : 0 ≤ phi ∧ phi ≤ 4095) : (ch.extrapolate a phi).ch.Sound := by
  unfold Channel.extrapolate
  split
  · exact h.lose _ hp (limited_bounds _)
  · next inside => exact { h with count := mag_le_of_not_outOfRange inside, footing := fun _ => .inr rfl }

theorem Channel.Sound.bridgeStep {ch : Channel} (h : ch.Sound) (a : CoastAnchor) {phi : Int}
    (hp : 0 ≤ phi ∧ phi ≤ 4095) : (ch.bridgeStep a phi).ch.Sound := by
  unfold Channel.bridgeStep
  dsimp only
  split
  · exact h.lose _ hp h.count
  · split
    · exact h.lose _ hp (limited_bounds _)
    · next inside =>
      exact { h with
        count := mag_le_of_not_outOfRange inside
        phase := ⟨h.phase.1, hp⟩
        footing := fun _ => .inl rfl }

theorem Channel.Sound.countStep {ch : Channel} (h : ch.Sound) {p : Point} (hp : 0 ≤ p.phi ∧ p.phi ≤ 4095) :
    (ch.countStep p).ch.Sound := by
  unfold Channel.countStep
  split
  · exact h
  · exact h.settleStep hp
  · unfold Channel.trackStep
    split
    · exact h.extrapolate _ hp
    · exact h.unwrap hp
  · unfold Channel.coastStep
    split
    · exact h.bridgeStep _ hp
    · split
      · exact h.lose _ hp h.count
      · exact h.extrapolate _ hp
  · exact h.settleStep hp

theorem Channel.Sound.watched {ch : Channel} (h : ch.Sound) {p : Point} (hp : 0 ≤ p.phi ∧ p.phi ≤ 4095)
    (hr : 0 ≤ p.r ∧ p.r ≤ 46340) : (ch.watched p).Sound := by
  rw [ch.watched_eq]
  exact { h with phase := ⟨hp, h.phase.2⟩, radius := hr }

theorem mem_pushHistory {es : List HistEntry} {e x : HistEntry} (h : x ∈ pushHistory es e) : x ∈ es ∨ x = e := by
  unfold pushHistory at h
  split at h
  · simpa using h
  · obtain h | h := List.mem_append.mp h
    · exact .inl (List.mem_of_mem_drop h)
    · exact .inr (List.mem_singleton.mp h)

theorem pushHistory_pairwise {R : HistEntry → HistEntry → Prop} {es : List HistEntry} {e : HistEntry}
    (h : es.Pairwise R) (he : ∀ x ∈ es, R x e) : (pushHistory es e).Pairwise R := by
  unfold pushHistory
  split <;> refine List.pairwise_append.mpr ⟨?_, List.pairwise_singleton R e, fun x hx y hy => ?_⟩
  · exact h
  · exact List.mem_singleton.mp hy ▸ he x hx
  · exact h.sublist (List.drop_sublist 1 es)
  · exact List.mem_singleton.mp hy ▸ he x (List.mem_of_mem_drop hx)

/-- A sample entered in the history under a number that the channel may count (R3, R15). -/
theorem Channel.Sound.entered {ch : Channel} (h : ch.Sound) {k : Nat} (next : ch.next ≤ k) : (ch.entered k).Sound :=
  { h with
    history := ⟨pushHistory_length h.history.1 _, fun e he => by
      obtain he | rfl := mem_pushHistory he
      · obtain ⟨hk, hq⟩ := h.history.2 e he
        exact ⟨by simp only [Channel.entered]; omega, hq⟩
      · exact ⟨by simp [Channel.entered], h.count⟩⟩
    ascending := pushHistory_pairwise h.ascending fun e he => by
      have := (h.history.2 e he).1
      show e.k < k
      omega
    run := fun first hf => by
      simp only [Channel.entered, Option.some.injEq] at hf ⊢
      cases old : ch.first with
      | none => simp [old] at hf; omega
      | some first' =>
        have := h.run first' old
        simp [old] at hf
        omega }

/-- A channel may count samples from its next number on (R3). -/
theorem Channel.next_le_of_mayCount {ch : Channel} {k : Nat} (h : ch.mayCount k = true) : ch.next ≤ k := by
  obtain ⟨-, ⟨-, h⟩ | ⟨-, -, h⟩⟩ := Channel.mayCount_iff.mp h <;> omega

theorem Channel.Sound.counted {ch : Channel} (h : ch.Sound) {x : SampleIn} (may : ch.mayCount x.k = true) :
    (ch.count x).ch.Sound := by
  obtain ⟨hp, hr⟩ := ch.point_bounds x h.phase.2
  refine ((h.watched hp hr).countStep hp).entered ?_
  rw [(Channel.countsTo_countStep _ _).next, ch.watched_next]
  exact Channel.next_le_of_mayCount may

end Sys2Proof.Machine

namespace Sys2Proof.Machine

/-! ### A sample beyond its channel (R35, R36, R42, R58, R64, R112) -/

/-- A channel written with its settings as they were, and the anchor judged after it (R58). -/
theorem State.sustains_rejudged {s : State} {c : Fin 4} {ch : Channel} (h : (s.chan c).SameSettings ch)
    (sound : s.CountsSound → ch.Sound) : s.Sustains ((s.setChan c ch).judgeAnchor c) := by
  have limits : s.LimitsSound → (s.setChan c ch).LimitsSound := fun hs => hs.setChan ((hs.channels c).of_same h)
  have counts : s.CountsSound → (s.setChan c ch).CountsSound := fun hs => hs.setChan (sound hs)
  have roles : ∀ c', ((s.setChan c ch).chan c').role = (s.chan c').role := State.role_setChan h.1
  unfold State.judgeAnchor
  split
  · exact {
      limits := fun hs => { limits hs with compensation := { hs.compensation with } }
      roles := fun hs => hs.congr roles rfl fun none => absurd rfl none
      counts := fun hs => { counts hs with }
      settings := { State.sameSettings_setChan h with }
      conversions := rfl
      port := rfl }
  · next kept =>
    refine ⟨⟨limits, fun hs => hs.congr roles rfl fun ha => ?_, counts⟩, State.sameSettings_setChan h, rfl, rfl⟩
    obtain ⟨t, htr, hts⟩ := hs.anchor ha
    refine ⟨t, (roles t).trans htr, ?_⟩
    by_cases e : t = c
    · subst e
      exact not_not.mp fun no => kept ⟨(roles t).trans htr, no⟩
    · rw [State.chan_setChan_ne s ch e]
      exact hts

theorem State.quiet_startRun (s : State) (c : Fin 4) (k : Nat) (wasFirst : Bool) :
    s.Quiet (s.startRun c k wasFirst) := by
  unfold State.startRun
  split
  · exact (s.quiet_latches_filter _).trans
      (State.quiet_tracks (t := { s.tracks with alignedNext := k }) fun _ h => .inl h)
  · exact .refl s

theorem State.quiet_reportSat (s : State) (c : Fin 4) (sets : Bool) : s.Quiet (s.reportSat c sets) := by
  unfold State.reportSat
  split
  · exact s.quiet_raise _
  · exact .refl s

/-- The probe unit written: no invariant speaks of it, and it holds no setting. -/
theorem State.quiet_probe (s : State) (p : Probe) : s.Quiet { s with probe := p } where
  limits hs := { hs with }
  roles hs := { hs with }
  counts hs := { hs with }
  settings := { State.SameSettings.refl s with }
  conversions := rfl
  port := rfl
  chans := rfl
  home := rfl

theorem State.quiet_probeTake (s : State) (c : Fin 4) (p : Point) : s.Quiet (s.probeTake c p) := by
  unfold State.probeTake
  split
  · exact .refl s
  · split
    · split
      · exact (s.quiet_probe _).trans (State.quiet_raise _ _)
      · exact s.quiet_probe _
    · exact .refl s

theorem State.quiet_reportCount (s : State) (c : Fin 4) (r : Counted) : s.Quiet (s.reportCount c r) := by
  unfold State.reportCount
  split
  · dsimp only
    split
    · exact (s.quiet_raise _).trans (State.quiet_endPass _ _ _)
    · exact s.quiet_raise _
  · split
    · exact .refl s
    · split
      · exact s.quiet_raise _
      · exact .refl s

theorem State.quiet_followTracks (s : State) (c : Fin 4) : s.Quiet (s.followTracks c) := by
  unfold State.followTracks
  split
  · exact s.quiet_advanceTracks
  · exact .refl s

/-- What a sample leaves of the part, once its channel has counted it and the anchor is judged: the channels as they are. -/
theorem State.countNow_quiet (s : State) (x : SampleIn) :
    ((s.setChan x.ch ((s.chan x.ch).count x).ch).judgeAnchor x.ch).Quiet (s.countNow x) :=
  ((((State.quiet_startRun _ _ _ _).trans (State.quiet_reportSat _ _ _)).trans (State.quiet_probeTake _ _ _)).trans
    (State.quiet_reportCount _ _ _)).trans (State.quiet_followTracks _ _)

theorem State.sustains_countNow {s : State} {x : SampleIn} (may : (s.chan x.ch).mayCount x.k = true) :
    s.Sustains (s.countNow x) :=
  (State.sustains_rejudged ((s.chan x.ch).sameSettings_count x) fun hs => (hs.channels x.ch).counted may).trans
    (s.countNow_quiet x).toSustains

/-- Whether a channel may count a sample is no matter of its origin, its referenced flag or its ν0. -/
theorem State.Homing.mayCount {s t : State} (h : s.Homing t) (c : Fin 4) (k : Nat) :
    (t.chan c).mayCount k = (s.chan c).mayCount k := by
  rw [h.origins c]
  rfl

theorem State.mayCount_channel {s : State} {x : SampleIn} (h : s.mayCount x = true) :
    (s.chan x.ch).mayCount x.k = true := (Bool.and_eq_true _ _ ▸ h).2

theorem State.sustains_countSample (s : State) (x : SampleIn) : s.Sustains (s.countSample x) := by
  unfold State.countSample
  split
  · next may =>
    refine (s.sustains_dueFirst x.ch).trans (State.sustains_countNow ?_)
    rw [(s.homing_dueFirst x.ch).mayCount]
    exact State.mayCount_channel may
  · exact .refl s

theorem State.sustains_countIf (s : State) (x : SampleIn) (kind : Channel → Point → Bool) :
    s.Sustains (s.countIf x kind) := by
  unfold State.countIf
  split
  · exact s.sustains_countSample x
  · exact .refl s

/-! ### The update (R46) -/

theorem State.quiet_moveApplied (s : State) (nu : Int) (t : Option Int) : s.Quiet (s.moveApplied nu t) := by
  unfold State.moveApplied
  split
  · exact s.quiet_applyValues _ _
  · exact (s.quiet_applyValues _ _).trans (State.quiet_refactorAll _)

theorem State.quiet_policyStep (s : State) : s.Quiet s.policyStep := by
  unfold State.policyStep
  split
  · exact s.quiet_moveApplied _ _
  · exact s.quiet_moveApplied _ _
  · split
    · exact .refl s
    · exact s.quiet_moveApplied _ _

/-- The compensation unit written without a new setting or anchor: its age and the forces may be new. -/
theorem State.quiet_comp {s : State} {c : Comp}
    (same : c.source = s.comp.source ∧ c.nuFixed = s.comp.nuFixed ∧ c.a = s.comp.a ∧ c.b = s.comp.b ∧
      c.ageLimit = s.comp.ageLimit ∧ c.lt = s.comp.lt ∧ c.policy = s.comp.policy ∧ c.sNu = s.comp.sNu ∧
      c.sT = s.comp.sT ∧ c.rb = s.comp.rb ∧ c.alpha = s.comp.alpha ∧ c.env = s.comp.env)
    (anchor : c.anchor = s.comp.anchor) (range : s.comp.SettingsInRange → c.SettingsInRange) :
    s.Quiet { s with comp := c } where
  limits hs := { hs with compensation := range hs.compensation }
  roles hs := hs.congr (fun _ => rfl) same.1 fun ha => hs.anchor (anchor ▸ ha)
  counts hs := { hs with }
  settings := { State.SameSettings.refl s with index := same }
  conversions := rfl
  port := rfl
  chans := rfl
  home := rfl

theorem State.quiet_formTargets (s : State) : s.Quiet s.formTargets :=
  State.quiet_comp ⟨rfl, rfl, rfl, rfl, rfl, rfl, rfl, rfl, rfl, rfl, rfl, rfl⟩ rfl fun h =>
    { h with force := ⟨h.a, h.b⟩, age := satInc_le _ _ }

theorem State.quiet_judgeStale (s : State) : s.Quiet s.judgeStale := by
  have judged : s.Quiet { s with comp := { s.comp with stale := s.comp.judgesStale } } :=
    State.quiet_comp ⟨rfl, rfl, rfl, rfl, rfl, rfl, rfl, rfl, rfl, rfl, rfl, rfl⟩ rfl fun h => { h with }
  unfold State.judgeStale
  dsimp only
  split
  · exact judged.trans (State.quiet_raise _ _)
  · exact judged

theorem State.quiet_update (s : State) : s.Quiet s.update := by
  unfold State.update
  split
  · exact (s.quiet_formTargets.trans (State.quiet_policyStep _)).trans (State.quiet_judgeStale _)
  · exact .refl s

/-! ### The strobe path (R110 to R115) -/

theorem State.sustains_latches {s : State} {es : List Edge} (len : s.eng.latches.length ≤ 64 → es.length ≤ 64)
    (sound : s.CountsSound → ∀ e ∈ es, e.Sound) : s.Sustains { s with eng := { s.eng with latches := es } } :=
  (State.homing_latches len).toKeeps.sustains fun hs => { hs with edges := sound hs }

theorem State.sustains_acceptEdge (s : State) (rising : Bool) (t : Nat) : s.Sustains (s.acceptEdge rising t) := by
  unfold State.acceptEdge
  split
  · exact .refl s
  · dsimp only
    split
    · exact .refl s
    · split
      · exact s.quiet_lostStrobe.toSustains
      · next room =>
        split
        · exact s.quiet_lostStrobe.toSustains
        · refine State.sustains_latches (fun _ => ?_) fun hs e he => ?_
          · simpa [Config.latchDepth] using room
          · obtain he | rfl := List.mem_append.mp he |>.imp_right List.mem_singleton.mp
            · exact hs.edges e he
            · exact ⟨by dsimp only; omega, fun l hl => by cases hl⟩

theorem State.sustains_confirmLevel (s : State) (level : Bool) (t : Nat) : s.Sustains (s.confirmLevel level t) := by
  have noted : s.Sustains { s with eng := { s.eng with level := some level, levelClock := some t } } :=
    State.sustains_eng ⟨⟨rfl, rfl, rfl, rfl, rfl, rfl, rfl, rfl⟩, .refl _, .inr rfl, id⟩
  unfold State.confirmLevel
  dsimp only
  split
  · exact noted
  · exact noted.trans (State.sustains_acceptEdge _ _ _)

theorem State.completeFirst_length (s : State) (es : List Edge) : (s.completeFirst es).length = es.length := by
  induction es with
  | nil => rfl
  | cons e es ih =>
    unfold State.completeFirst
    split <;> simp [ih]

theorem State.CountsSound.completeFirst {s : State} (h : s.CountsSound) {es : List Edge} (hes : ∀ e ∈ es, e.Sound) :
    ∀ e ∈ s.completeFirst es, e.Sound := by
  induction es with
  | nil => exact hes
  | cons x xs ih =>
    obtain ⟨hx, hxs⟩ := List.forall_mem_cons.mp hes
    unfold State.completeFirst
    split
    · exact List.forall_mem_cons.mpr ⟨h.completeEdge hx, hxs⟩
    · exact List.forall_mem_cons.mpr ⟨hx, ih hxs⟩

end Sys2Proof.Machine

namespace Sys2Proof.Machine

/-! ### The reset state (R24, R47, R92, R93, R130, R148, R176) -/

/-- Every channel after a reset is a reset channel, of role MEASURE or PLAIN. -/
theorem State.reset_chan (c : Fin 4) : State.reset.chan c = .reset (if c = 0 then .measure else .plain) := by
  fin_cases c <;> rfl

theorem Channel.reset_sound (role : Role) : (Channel.reset role).Sound where
  count := (by decide : mag 0 ≤ 2 ^ 39 - 1)
  origin := (by decide : mag 0 ≤ 8 * (2 ^ 39 - 1))
  phase := (by decide : (0 ≤ (0 : Int) ∧ (0 : Int) ≤ 4095) ∧ (0 ≤ (0 : Int) ∧ (0 : Int) ≤ 4095))
  radius := (by decide : 0 ≤ (0 : Int) ∧ (0 : Int) ≤ 46340)
  ring := (by decide : (List.replicate Config.ringDepth (0 : Int)).length = 16 ∧
    ∀ x ∈ List.replicate Config.ringDepth (0 : Int), mag x ≤ 1536)
  limit := (by decide : 256 ≤ (1024 : Int) ∧ (1024 : Int) ≤ 1536)
  history := ⟨Nat.zero_le 33, fun e he => by cases he⟩
  ascending := .nil
  run := fun k hk => by cases hk
  footing := fun h => by cases h

theorem Codes.neutral_inRange : Codes.InRange ⟨0, 0, 32768, 0, 0⟩ := by
  constructor <;> decide

theorem MonSet.default_inRange : MonSet.default.InRange := by
  constructor <;> decide

theorem Channel.reset_settingsInRange (role : Role) : (Channel.reset role).SettingsInRange where
  passK := .inr (.inr (.inl rfl))
  lambda := (by decide : 400000000 ≤ (632991212 : Int) ∧ (632991212 : Int) ≤ 1000000000)
  datum := (by decide : 0 ≤ (0 : Int) ∧ (0 : Int) ≤ 4000000)
  step := (by decide : -2047 ≤ (0 : Int) ∧ (0 : Int) ≤ 2047)
  codes := Codes.neutral_inRange
  monitor := MonSet.default_inRange

theorem Comp.reset_settingsInRange : Comp.reset.SettingsInRange := by
  constructor
  case tAir | tScale | pressure | vapour => exact fun v h => nomatch h
  all_goals decide

theorem State.reset_resultsSound : State.reset.ResultsSound where
  ordered := by constructor <;> decide
  records r hr := by cases hr
  occupancy o h := by cases h

theorem State.reset_countsSound : State.reset.CountsSound where
  channels c := by
    rw [State.reset_chan]
    exact Channel.reset_sound _
  edges e he := by cases he
  pulse p hp := by cases hp

theorem State.reset_rolesSound : State.reset.RolesSound := by
  constructor <;> decide

theorem State.reset_indexSound : State.reset.IndexSound := by
  constructor <;> decide

theorem State.reset_attentionSound : State.reset.AttentionSound where
  threshold := by decide
  levels := by decide
  counts i r h := by
    have quiet : ∀ j : Fin 16, (State.reset.source j).raised = none := by decide
    simp [quiet i] at h
  lost := by decide
  stale := by decide

theorem State.reset_limitsSound : State.reset.LimitsSound := by
  constructor
  case channels =>
    intro c
    rw [State.reset_chan]
    exact Channel.reset_settingsInRange _
  case compensation => exact Comp.reset_settingsInRange
  case aligned | realTime | response => exact fun p hp => nomatch hp
  all_goals decide

/-- Settles O3. -/
theorem resetStateIsSound : Obligations.ResetStateIsSound :=
  ⟨State.reset_resultsSound, State.reset_countsSound, State.reset_rolesSound, State.reset_indexSound,
    State.reset_attentionSound, State.reset_limitsSound⟩

end Sys2Proof.Machine

namespace Sys2Proof.Machine

/-! ### The lengths of the images (R181 to R183) -/

@[simp] theorem toLE_length (n v : Nat) : (toLE n v).length = n := by
  induction n generalizing v with
  | zero => rfl
  | succ n ih => simp [toLE, ih]

@[simp] theorem uField_length (n v : Nat) : (uField n v).length = n := toLE_length n v

@[simp] theorem sField_length (n : Nat) (v : Int) : (sField n v).length = n := toLE_length n _

@[simp] theorem flagField_length (n : Nat) (bs : List Bool) : (flagField n bs).length = n := toLE_length n _

@[simp] theorem sOpt_length (n : Nat) (v : Option Int) : (sOpt n v).length = n := sField_length n _

@[simp] theorem Acc.bytes_length (a : Acc) : a.bytes.length = 25 := by simp [Acc.bytes]

@[simp] theorem Rejects.bytes_length (c : Rejects) : c.bytes.length = 6 := by simp [Rejects.bytes]

@[simp] theorem lastBytes_length (l : Option LastCapture) : (lastBytes l).length = 9 := by
  cases l <;> simp [lastBytes]

@[simp] theorem directionBytes_length (quota : Nat) (a : Acc) : (directionBytes quota a).length = 20 := by
  simp [directionBytes]

theorem recordImage_length (s : State) (r : LineRec) (inside : Bool) : (recordImage s r inside).length = 84 := by
  simp [recordImage]

theorem resultImage_length (s : State) (r : LineRec) : (resultImage s r).length = 69 := by simp [resultImage]

theorem intervalImage_length (a b : LineRec) : (intervalImage a b).length = 21 := by simp [intervalImage]

theorem channelImage_length (s : State) (c : Fin 4) : (channelImage s c).length = 29 := by simp [channelImage]

theorem compensationImage_length (s : State) : (compensationImage s).length = 60 := by
  unfold compensationImage
  cases s.partner <;> simp

@[simp] theorem occBytes_length (o : Option Occ) : (occBytes o).length = 10 := by
  cases o with
  | none => rfl
  | some o =>
    obtain ⟨label, side, dir, outcome, pending⟩ := o
    cases outcome <;> cases pending <;> simp [occBytes]

theorem traverseImage_length (s : State) : (traverseImage s).length = 37 := by
  simp only [traverseImage]
  cases s.trav.dir <;> simp

@[simp] theorem extremesBytes_length (e : Option Extremes) : (extremesBytes e).length = 12 := by
  cases e <;> simp [extremesBytes]

@[simp] theorem probeResultBytes_length (r : Option ProbeResult) : (probeResultBytes r).length = 22 := by
  cases r <;> simp [probeResultBytes]

theorem probeImage_length (p : Probe) : (probeImage p).length = 29 := by
  unfold probeImage
  cases p.run <;> simp

/-- The layouts of R183 use at most eight bytes. -/
theorem Detail.used_length_le (d : Detail) : d.used.length ≤ 8 := by
  unfold Detail.used
  split <;> simp

@[simp] theorem Detail.word_length (d : Detail) : d.word.length = 8 := by
  have := d.used_length_le
  simp [Detail.word]
  omega

@[simp] theorem Source.bytes_length (x : Source) : x.bytes.length = 9 := by
  unfold Source.bytes
  cases x.raised <;> simp

theorem attentionImage_length (s : State) : (attentionImage s).length = 148 := by
  unfold attentionImage
  cases s.firstSource <;> simp

/-! ### Completions (R168, R169) -/

/-- What a command that is no setting's own leaves, its answer in the slot apart. -/
structure State.Spares (s t : State) : Prop extends s.Preserves t where
  settings : s.SameSettings t
  conversions : t.conversions = s.conversions

theorem State.Sustains.spares {s t : State} (h : s.Sustains t) : s.Spares t := { h with }

theorem State.Spares.refl (s : State) : s.Spares s := (State.Sustains.refl s).spares

theorem State.Spares.trans {s t u : State} (h : s.Spares t) (h' : t.Spares u) : s.Spares u :=
  ⟨h.toPreserves.trans h'.toPreserves, h.settings.trans h'.settings, h'.conversions.trans h.conversions⟩

/-- The port written, where a response newly held is short enough for its length byte (R168). -/
theorem State.spares_port {s : State} {p : Port}
    (short : ∀ r, p.link = .holding r → s.port.link = .holding r ∨ r.payload.length ≤ 255) :
    s.Spares { s with port := p } where
  limits hs := { hs with response := fun r hr => (short r hr).elim (hs.response r) id }
  roles hs := { hs with }
  counts hs := { hs with }
  settings := { State.SameSettings.refl s with }
  conversions := rfl

theorem State.spares_respond (s : State) {r : Response} (short : r.payload.length ≤ 255) : s.Spares (s.respond r) :=
  State.spares_port fun r' hr => by
    cases hr
    exact .inr short

/-- A request's effects and answer: they sustain, and the answer is short enough to be sent. -/
def State.Serves (s : State) (a : State × Response) : Prop := s.Sustains a.1 ∧ a.2.payload.length ≤ 255

/-- The effects and answer of a request for a setting: the invariants stay, and the answer is short enough to be sent. -/
def State.Grants (s : State) (a : State × Response) : Prop := s.Preserves a.1 ∧ a.2.payload.length ≤ 255

theorem State.Serves.grants {s : State} {a : State × Response} (h : s.Serves a) : s.Grants a :=
  ⟨h.1.toPreserves, h.2⟩

theorem complete_spares {i : Instr} {f : State → State × Response} {s t : State} (h : s.Serves (f s))
    (e : complete i f s = .next t) : s.Spares t := by
  obtain ⟨-, h'⟩ | ⟨-, h'⟩ := complete_cases i s f <;> rw [h'] at e <;> cases e
  · exact h.1.spares.trans (State.spares_respond _ h.2)
  · exact .refl s

theorem complete_preserves {i : Instr} {f : State → State × Response} {s t : State} (h : s.Grants (f s))
    (e : complete i f s = .next t) : s.Preserves t := by
  obtain ⟨-, h'⟩ | ⟨-, h'⟩ := complete_cases i s f <;> rw [h'] at e <;> cases e
  · exact h.1.trans (State.spares_respond _ h.2).toPreserves
  · exact .refl s

theorem State.serves_refuse (s : State) (st : Status) : s.Serves (refuse st s) := ⟨.refl s, Nat.zero_le _⟩

theorem State.serves_image (s : State) {bs : List Byte} (short : bs.length ≤ 255) : s.Serves (image bs s) :=
  ⟨.refl s, short⟩

/-- An accepted request of bare status. -/
theorem State.Sustains.serves {s t : State} (h : s.Sustains t) (clamped : Bool) : s.Serves (t, accepted clamped) :=
  ⟨h, Nat.zero_le _⟩

theorem State.Preserves.grants {s t : State} (h : s.Preserves t) (clamped : Bool) : s.Grants (t, accepted clamped) :=
  ⟨h, Nat.zero_le _⟩

theorem State.grants_refuse (s : State) (st : Status) : s.Grants (refuse st s) := (s.serves_refuse st).grants

theorem onChannel_serves {b : Byte} {f : Fin 4 → State → State × Response} {s : State} (h : ∀ c, s.Serves (f c s)) :
    s.Serves (onChannel b f s) := by
  unfold onChannel
  split
  · exact s.serves_refuse _
  · exact h _

theorem onChannel_grants {b : Byte} {f : Fin 4 → State → State × Response} {s : State} (h : ∀ c, s.Grants (f c s)) :
    s.Grants (onChannel b f s) := by
  unfold onChannel
  split
  · exact s.grants_refuse _
  · exact h _

theorem onRecord_serves {l : Nat} {f : LineRec → State → State × Response} {s : State} (h : ∀ r, s.Serves (f r s)) :
    s.Serves (onRecord l f s) := by
  unfold onRecord
  split
  · exact s.serves_refuse _
  · exact h _

theorem onRecord_grants {l : Nat} {f : LineRec → State → State × Response} {s : State} (h : ∀ r, s.Grants (f r s)) :
    s.Grants (onRecord l f s) := by
  unfold onRecord
  split
  · exact s.grants_refuse _
  · exact h _

/-! ### The channels' requests (R17 to R19, R41) -/

/-- A channel started from zero (R18). -/
theorem Channel.Sound.started {ch : Channel} (h : ch.Sound) (n : Nat) : (ch.started n).Sound :=
  { h with
    count := (by decide : mag 0 ≤ 2 ^ 39 - 1)
    origin := (by decide : mag 0 ≤ 8 * (2 ^ 39 - 1))
    phase := ⟨h.phase.1, (by decide : 0 ≤ (0 : Int) ∧ (0 : Int) ≤ 4095)⟩
    ring := (Channel.reset_sound .plain).ring
    history := ⟨Nat.zero_le 33, fun e he => by cases he⟩
    ascending := .nil
    run := fun k hk => by cases hk
    footing := fun h => by cases h }

theorem Channel.Sound.stopped {ch : Channel} (h : ch.Sound) : ch.stopped.Sound :=
  { h with footing := fun h => by cases h }

theorem State.serves_channelOnAt (s : State) (c : Fin 4) : s.Serves (channelOnAt c s) := by
  unfold channelOnAt
  split
  · exact s.serves_refuse _
  · next off =>
    have started : s.Sustains (s.setChan c ((s.chan c).started s.measure.next)) :=
      (State.keeps_setChan (ch := (s.chan c).started s.measure.next) ⟨rfl, rfl, rfl, rfl, rfl, rfl, rfl, rfl, rfl⟩
        (fun tracking => absurd (tracking ▸ not_not.mp off) (by simp))).sustains
        fun hs => hs.setChan ((hs.channels c).started _)
    dsimp only
    split
    · exact (started.trans (State.quiet_emptyRing _).toSustains).serves _
    · exact started.serves _

theorem State.quiet_abortProbe (s : State) (c : Fin 4) : s.Quiet (s.abortProbe c) := by
  unfold State.abortProbe
  split
  · exact .refl s
  · split
    · exact (s.quiet_probe _).trans (State.quiet_raise _ _)
    · exact .refl s

theorem State.quiet_offEngine (s : State) (c : Fin 4) : s.Quiet (s.offEngine c) := by
  unfold State.offEngine
  split
  · exact State.quiet_eng ⟨⟨rfl, rfl, rfl, rfl, rfl, rfl, rfl, rfl⟩, List.nil_sublist _, .inl rfl, id⟩ rfl
  · split
    · exact s.quiet_advanceTracks
    · exact .refl s

theorem State.sustains_switchOff (s : State) (c : Fin 4) : s.Sustains (s.switchOff c) :=
  (State.sustains_rejudged (ch := (s.chan c).stopped) ⟨rfl, rfl, rfl, rfl, rfl, rfl, rfl, rfl, rfl⟩
    fun hs => (hs.channels c).stopped).trans
    ((State.quiet_offEngine _ c).trans (State.quiet_abortProbe _ c)).toSustains

theorem State.serves_channelOffAt (s : State) (c : Fin 4) : s.Serves (channelOffAt c s) := by
  unfold channelOffAt
  split
  · exact s.serves_refuse _
  · split
    · exact (State.Sustains.refl s).serves _
    · exact (s.sustains_switchOff c).serves _

theorem State.serves_presetAt (s : State) (value : Int) (c : Fin 4) : s.Serves (presetAt value c s) := by
  unfold presetAt
  split
  · exact s.serves_refuse _
  · next tracking =>
    split
    · exact s.serves_refuse _
    · split
      · exact s.serves_refuse _
      · next range =>
        have set : s.Sustains (s.setOrigin c (presetOrigin (s.chan c) value)) :=
          (s.keeps_setOrigin c _).sustains fun hs =>
            hs.setOrigin (not_not.mp tracking) (not_lt.mp fun out => range (.inr out))
        refine State.Sustains.serves ?_ _
        unfold State.applyPreset
        dsimp only
        split
        · exact set.trans (State.quiet_emptyRing _).toSustains
        · exact set

theorem State.serves_probeAt (s : State) (k : Nat) (c : Fin 4) : s.Serves (probeAt k c s) := by
  unfold probeAt
  split
  · exact s.serves_refuse _
  · split
    · exact s.serves_refuse _
    · exact (s.quiet_probe _).toSustains.serves _

/-! ### The tracker, the plan and HOME (R56, R94 to R96, R128) -/

theorem State.tracker_role {s : State} {t : Fin 4} (h : s.tracker = some t) : (s.chan t).role = .tracker := by
  simpa using List.find?_some h

/-- An anchor set on a TRACKING tracker (R56, R58). -/
theorem State.sustains_setAnchor {s : State} {t : Fin 4} (tracker : s.tracker = some t)
    (tracking : (s.chan t).state = .tracking) (a : TrackerAnchor) : s.Sustains (s.setAnchor a) where
  limits hs := { hs with compensation := { hs.compensation with } }
  roles hs := { hs with anchor := fun _ => ⟨t, s.tracker_role tracker, tracking⟩ }
  counts hs := { hs with }
  settings := { State.SameSettings.refl s with }
  conversions := rfl
  port := rfl

theorem State.serves_anchorTracker (s : State) (nu : Option (BitVec 32)) (unlisted : BitVec 7) :
    s.Serves (anchorTracker nu unlisted s) := by
  unfold anchorTracker
  split
  · exact s.serves_refuse _
  · split
    · exact s.serves_refuse _
    · next t tracker =>
      split
      · exact s.serves_refuse _
      · next tracking =>
        have anchored := State.sustains_setAnchor tracker (not_not.mp tracking)
        split
        · exact s.serves_refuse _
        · split <;> split
          · exact s.serves_refuse _
          · exact (anchored _).serves _
          · exact s.serves_refuse _
          · exact (anchored _).serves _

theorem State.serves_startPlan (s : State) (count : BitVec 16) : s.Serves (startPlan count.toNat s) := by
  unfold startPlan
  split
  · exact s.serves_refuse _
  · exact (State.quiet_trav
      (t := { s.trav with ctl := .waiting, counted := decide (count.toNat ≠ 0), remaining := count.toNat })
      (fun h => { h with
        remaining := Nat.le_of_lt_succ count.isLt
        openPlan := fun unlimited => not_not.mp (of_decide_eq_false unlimited)
        direction := by simp }) ⟨rfl, rfl, rfl, rfl⟩).toSustains.serves _

theorem State.serves_stopPlan (s : State) : s.Serves (stopPlan s) := by
  unfold stopPlan
  split
  · exact s.serves_refuse _
  · exact (((s.quiet_endPass _ _).trans (State.quiet_goIdle _)).trans (State.quiet_raise _ _)).toSustains.serves _

theorem State.serves_endPassRequest (s : State) : s.Serves (endPassRequest s) := by
  unfold endPassRequest
  split
  · exact (s.quiet_endPass _ _).toSustains.serves _
  · exact s.serves_refuse _

theorem State.serves_home (s : State) : s.Serves (home s) := by
  unfold home
  split
  · exact s.serves_refuse _
  · exact (State.sustains_eng (e := { s.eng with home := true })
      ⟨⟨rfl, rfl, rfl, rfl, rfl, rfl, rfl, rfl⟩, .refl _, .inr rfl, id⟩).serves _

/-! ### Results and attention (R85 to R87, R156) -/

theorem LineRec.asked_place (st : RecState) (r : LineRec) :
    (r.asked st).label = r.label ∧ (r.asked st).n = r.n ∧ (r.asked st).w = r.w ∧ (r.asked st).quotaF = r.quotaF ∧
      (r.asked st).quotaB = r.quotaB := by
  unfold LineRec.asked LineRec.armed
  split
  · split <;> exact ⟨rfl, rfl, rfl, rfl, rfl⟩
  · exact ⟨rfl, rfl, rfl, rfl, rfl⟩

theorem State.serves_setRecordStateOn (s : State) (state : Byte) (r : LineRec) :
    s.Serves (setRecordStateOn state r s) := by
  unfold setRecordStateOn
  split
  · exact s.serves_refuse _
  · next st _ =>
    split
    · exact s.serves_refuse _
    · exact ((State.quiet_modify (LineRec.asked_place st) r.label).trans
        (State.quiet_raiseIfCompleted _ _ _)).toSustains.serves _

theorem State.serves_clearResults (s : State) (label : BitVec 16) (unlisted : BitVec 7) :
    s.Serves (clearResults label unlisted s) := by
  unfold clearResults
  split
  · exact s.serves_refuse _
  · exact onRecord_serves fun r =>
      (State.quiet_modify (f := LineRec.cleared) (fun _ => ⟨rfl, rfl, rfl, rfl, rfl⟩) r.label).toSustains.serves _

theorem State.serves_clearResultsAll (s : State) (unlisted : BitVec 7) : s.Serves (clearResultsAll unlisted s) := by
  unfold clearResultsAll
  split
  · exact s.serves_refuse _
  · refine State.Sustains.serves ?_ _
    have cleared : s.Sustains { s with table := { s.table with records := s.table.records.map LineRec.cleared } } :=
      { State.preserves_table s _ with
        settings := { State.SameSettings.refl s with
          records := by
            simp only [List.map_map]
            exact List.map_congr_left fun r _ => rfl }
        conversions := rfl
        port := rfl }
    exact cleared.trans (State.sustains_eng (e := { s.eng with strays := 0 })
      ⟨⟨rfl, rfl, rfl, rfl, rfl, rfl, rfl, rfl⟩, .refl _, .inr rfl, fun _ => Nat.zero_le _⟩)

theorem State.quiet_clearSources (s : State) (set : BitVec 16) : s.Quiet (s.clearSources set) :=
  State.quiet_att rfl fun i => by
    simp only [Fin.getElem_fin, Vector.getElem_mapFinIdx, State.source]
    split <;> exact ⟨rfl, rfl⟩

theorem State.quiet_raiseAgain (set : BitVec 16) (s : State) (i : Fin 16) : s.Quiet (s.raiseAgain set i) := by
  unfold State.raiseAgain
  split
  · split
    · exact .refl s
    · exact s.quiet_raise _
  · exact .refl s

theorem State.serves_acknowledge (s : State) (set : BitVec 16) : s.Serves (acknowledge set s) :=
  ((s.quiet_clearSources set).trans (State.Quiet.foldl (State.quiet_raiseAgain set) _ _)).toSustains.serves _

theorem State.serves_findPosition (s : State) (p : Int) : s.Serves (findPosition p s) := by
  have inside : ∀ (r : LineRec) (b : Bool), s.Serves (image (recordImage s r b) s) := fun r b =>
    s.serves_image ((recordImage_length s r b).trans_le (by norm_num))
  unfold findPosition
  split
  · exact s.serves_refuse _
  · split
    · exact inside _ _
    · split
      · exact inside _ _
      · exact s.serves_refuse _

theorem State.serves_readInterval (s : State) (a b : Nat) : s.Serves (readInterval a b s) :=
  onRecord_serves fun ra => onRecord_serves fun rb =>
    s.serves_image ((intervalImage_length ra rb).trans_le (by norm_num))

theorem State.serves_readRecord (s : State) (label : Nat) :
    s.Serves (onRecord label (fun r s => image (recordImage s r false) s) s) :=
  onRecord_serves fun r => s.serves_image ((recordImage_length s r false).trans_le (by norm_num))

theorem State.serves_readResult (s : State) (label : Nat) :
    s.Serves (onRecord label (fun r s => image (resultImage s r) s) s) :=
  onRecord_serves fun r => s.serves_image ((resultImage_length s r).trans_le (by norm_num))

theorem State.serves_readChannel (s : State) (ch : Byte) :
    s.Serves (onChannel ch (fun c s => image (channelImage s c) s) s) :=
  onChannel_serves fun c => s.serves_image ((channelImage_length s c).trans_le (by norm_num))

end Sys2Proof.Machine

namespace Sys2Proof.Machine

/-! ### SET_CHANNEL (R20 to R22) -/

theorem settle_bounds {lo hi held : Int} (range : lo ≤ hi) (h : lo ≤ held ∧ held ≤ hi) (v : Option Int) :
    lo ≤ settle lo hi held v ∧ settle lo hi held v ≤ hi := by
  cases v with
  | none => exact h
  | some v => exact clamp_bounds range v

theorem passKOf_range {b : Byte} {k : Int} (h : passKOf b = some k) : k = 1 ∨ k = 2 ∨ k = 4 ∨ k = 8 := by
  unfold passKOf at h
  split at h <;> cases h <;> simp

/-- A field present that names something, or absent. -/
theorem named_eq_some {α : Type} {f : Byte → Option α} {b : Option Byte} {v : Option α} (h : named f b = some v) :
    (b = none ∧ v = none) ∨ ∃ b' a, b = some b' ∧ f b' = some a ∧ v = some a := by
  cases b with
  | none => exact .inl ⟨rfl, (Option.some.inj h).symm⟩
  | some b' =>
    obtain ⟨a, ha, hv⟩ := Option.map_eq_some_iff.mp h
    exact .inr ⟨b', a, rfl, ha, hv.symm⟩

/-- The settings after a SET_CHANNEL lie in their ranges (R21). -/
theorem SetChannelReq.apply_inRange {q : SetChannelReq} {role : Option Role} {sense : Option Sense} {passK : Option Int}
    {source : Option InSource} {ch : Channel} (h : ch.SettingsInRange) (hk : named passKOf q.passK = some passK) :
    (q.apply role sense passK source ch).SettingsInRange where
  passK := by
    obtain ⟨-, rfl⟩ | ⟨b, k, -, hb, rfl⟩ := named_eq_some hk
    · exact h.passK
    · exact passKOf_range hb
  lambda := settle_bounds (by decide) h.lambda _
  datum := settle_bounds (by decide) h.datum _
  step := settle_bounds (by decide) h.step _
  codes := h.codes
  monitor := h.monitor

/-- SET_CHANNEL writes no count. -/
theorem Channel.Sound.applied {ch : Channel} (h : ch.Sound) (q : SetChannelReq) (role : Option Role)
    (sense : Option Sense) (passK : Option Int) (source : Option InSource) :
    (q.apply role sense passK source ch).Sound := { h with }

/-- A role among FC1 to FC3 is held by none of them where it has no holder. -/
theorem State.holder_eq_none {s : State} {role : Role} (h : s.holder role = none) {c : Fin 4} (hc : c ≠ 0) :
    (s.chan c).role ≠ role := by
  have none := List.find?_eq_none.mp h c
  fin_cases c
  · exact absurd rfl hc
  all_goals simpa using none (by decide)

/-- What `State.roleConflict` leaves of a role that changes (R20, R21). -/
theorem State.roleConflict_eq_false {s : State} {c : Fin 4} {role : Role} (h : s.roleConflict c role = false)
    (changed : role ≠ (s.chan c).role) :
    c ≠ 0 ∧ role ≠ .measure ∧ (role = .partner → s.partner = none) ∧ (role = .tracker → s.tracker = none) ∧
      ((s.chan c).role = .tracker → s.comp.source ≠ .tracker) := by
  simpa [State.roleConflict, changed, not_or, and_assoc] using h

/-- A role that an OFF channel may take keeps the roles legal (R20). -/
theorem State.RolesSound.newRole {s : State} (h : s.RolesSound) {c : Fin 4} {ch : Channel}
    (legal : s.roleConflict c ch.role = false) (changed : ch.role ≠ (s.chan c).role) (off : (s.chan c).state = .off) :
    (s.setChan c ch).RolesSound := by
  obtain ⟨hc, hm, hp, ht, hs⟩ := State.roleConflict_eq_false legal changed
  have unheld : ∀ (role : Role), role ≠ .measure → s.holder role = none → ∀ c', (s.chan c').role ≠ role := by
    intro role notMeasure none c'
    by_cases e : c' = 0
    · rw [(h.measure c').mpr e]
      exact notMeasure.symm
    · exact State.holder_eq_none none e
  have role : ∀ c', ((s.setChan c ch).chan c').role = if c' = c then ch.role else (s.chan c').role := fun c' => by
    rw [State.chan_setChan]
    split <;> rfl
  have unique : ∀ (r : Role), (∀ a b : Fin 4, (s.chan a).role = r → (s.chan b).role = r → a = b) →
      (ch.role = r → ∀ c', (s.chan c').role ≠ r) →
      ∀ a b : Fin 4, ((s.setChan c ch).chan a).role = r → ((s.setChan c ch).chan b).role = r → a = b := by
    intro r old fresh a b ha hb
    rw [role] at ha hb
    split at ha <;> split at hb
    · next ea eb => rw [ea, eb]
    · exact absurd hb (fresh ha b)
    · exact absurd ha (fresh hb a)
    · exact old a b ha hb
  refine ⟨fun c' => ?_, unique _ h.partner fun e => unheld _ (by simp) (hp e),
    unique _ h.tracker fun e => unheld _ (by simp) (ht e), fun e => ?_, fun e => ?_⟩
  · rw [role]
    split
    · next e => simp [e, hc, hm]
    · exact h.measure c'
  · obtain ⟨t, held⟩ := h.source e
    have apart : t ≠ c := fun same => hs (same ▸ held) e
    exact ⟨t, by rw [State.chan_setChan_ne s ch apart, held]⟩
  · obtain ⟨t, held, tracking⟩ := h.anchor e
    have apart : t ≠ c := by
      rintro rfl
      rw [off] at tracking
      cases tracking
    exact ⟨t, by rw [State.chan_setChan_ne s ch apart]; exact ⟨held, tracking⟩⟩

theorem State.Quiet.ite {s t : State} (p : Prop) [Decidable p] (h : s.Quiet t) : s.Quiet (if p then t else s) := by
  split
  · exact h
  · exact .refl s

/-- What SET_CHANNEL does beside its channel: a factor, the velocity ring and a running pass (R22, R98, R104). -/
theorem State.quiet_applyChannel (s : State) (c : Fin 4) (after : Channel) :
    (s.setChan c after).Quiet (s.applyChannel c after) :=
  ((State.Quiet.ite _ (State.quiet_applied _ _ _ _)).trans (State.Quiet.ite _ (State.quiet_emptyRing _))).trans
    (State.Quiet.ite _ (State.quiet_endPass _ _ _))

theorem State.grants_setChannelOn (s : State) (q : SetChannelReq) (c : Fin 4) : s.Grants (setChannelOn q c s) := by
  unfold setChannelOn
  split
  · exact s.grants_refuse _
  · next stateOk =>
    split
    · exact s.grants_refuse _
    · next role hrole =>
      split
      · exact s.grants_refuse _
      · next legal =>
        split
        · next sense passK source hsense hpassK hsource =>
          have set : s.Preserves (s.setChan c (q.apply role sense passK source (s.chan c))) := {
            limits := fun hs => hs.setChan (SetChannelReq.apply_inRange (hs.channels c) hpassK)
            counts := fun hs => hs.setChan ((hs.channels c).applied q role sense passK source)
            roles := fun hs => by
              by_cases same : role.getD (s.chan c).role = (s.chan c).role
              · exact hs.setChan same id
              · refine hs.newRole (Bool.not_eq_true _ ▸ legal) same ?_
                by_contra on
                obtain ⟨-, rfl⟩ | ⟨b, r, present, -⟩ := named_eq_some hrole
                · exact same rfl
                · exact stateOk ⟨on, by simp [SetChannelReq.beyondStep, present]⟩ }
          exact (set.trans (State.quiet_applyChannel s c _).toPreserves).grants _
        · exact s.grants_refuse _

theorem State.grants_setChannel (s : State) (q : SetChannelReq) : s.Grants (setChannel q s) := by
  unfold setChannel
  split
  · exact s.grants_refuse _
  · exact onChannel_grants fun c => s.grants_setChannelOn q c

/-! ### The other settings (R7, R26, R48, R54, R97, R109, R147) -/

theorem SetQuadratureReq.codes_inRange (q : SetQuadratureReq) : q.codes.InRange where
  offS := clamp_bounds (by decide) _
  offC := clamp_bounds (by decide) _
  g := clamp_bounds (by decide) (q.g.toNat : Int)
  hs := clamp_bounds (by decide) (q.hs.toNat : Int)
  p := clamp_bounds (by decide) _

theorem SetMonitorReq.apply_inRange (q : SetMonitorReq) {m : MonSet} (h : m.InRange) : (q.apply m).InRange where
  rLow := settle_bounds (by decide) h.rLow _
  rHyst := settle_bounds (by decide) h.rHyst _
  rHigh := settle_bounds (by decide) h.rHigh _
  nd := settle_bounds (by decide) h.nd _
  nr := settle_bounds (by decide) h.nr _
  tShort := settle_bounds (by decide) h.tShort _
  tSettle := settle_bounds (by decide) h.tSettle _
  tol := settle_bounds (by decide) h.tol _
  limit := settle_bounds (by decide) h.limit _

/-- A channel written with its role and state as they were. -/
theorem State.preserves_setChan {s : State} {c : Fin 4} {ch : Channel} (role : ch.role = (s.chan c).role)
    (state : ch.state = (s.chan c).state) (range : (s.chan c).SettingsInRange → ch.SettingsInRange)
    (sound : (s.chan c).Sound → ch.Sound) : s.Preserves (s.setChan c ch) where
  limits hs := hs.setChan (range (hs.channels c))
  roles hs := hs.setChan role fun tracking => state.trans tracking
  counts hs := hs.setChan (sound (hs.channels c))

theorem State.grants_setQuadratureOn (s : State) (q : SetQuadratureReq) (c : Fin 4) :
    s.Grants (setQuadratureOn q c s) := by
  have set : s.Preserves (s.setChan c { s.chan c with codes := q.codes }) :=
    State.preserves_setChan rfl rfl (fun h => { h with codes := SetQuadratureReq.codes_inRange q }) fun h => { h with }
  exact set.grants _

theorem State.grants_setMonitor (s : State) (q : SetMonitorReq) : s.Grants (setMonitor q s) := by
  have set : ∀ c, s.Preserves (s.setChan c { s.chan c with mon := q.apply (s.chan c).mon }) := fun c =>
    State.preserves_setChan rfl rfl (fun h => { h with monitor := SetMonitorReq.apply_inRange q h.monitor })
      fun h => { h with limit := settle_bounds (by decide) h.limit _ }
  unfold setMonitor
  split
  · exact s.grants_refuse _
  · exact onChannel_grants fun c => (set c).grants _

theorem clampLt_range (v : Int) : clampLt v = 0 ∨ (1000 ≤ clampLt v ∧ clampLt v ≤ 2000000) := by
  unfold clampLt
  split
  · exact .inl rfl
  · exact .inr (clamp_bounds (by decide) v)

theorem SetCompensationReq.apply_inRange (q : SetCompensationReq) (source : Option IndexSource) (policy : Option Policy)
    {c : Comp} (h : c.SettingsInRange) : (q.apply source policy c).SettingsInRange :=
  { h with
    nuFixed := settle_bounds (by decide) h.nuFixed _
    a := settle_bounds (by decide) h.a _
    b := settle_bounds (by decide) h.b _
    ageLimit := settle_bounds (by decide) h.ageLimit _
    lt := by
      simp only [SetCompensationReq.apply]
      split
      · exact h.lt
      · exact clampLt_range _
    sNu := settle_bounds (by decide) h.sNu _
    sT := settle_bounds (by decide) h.sT _
    rb := settle_bounds (by decide) h.rb _
    alpha := settle_bounds (by decide) h.alpha _ }

/-- The compensation unit written: its settings in range, its source as it was or one that has its channel, and its anchor as it
was or none. -/
theorem State.preserves_comp {s : State} {c : Comp} (range : s.comp.SettingsInRange → c.SettingsInRange)
    (source : c.source = .tracker → s.comp.source = .tracker ∨ s.tracker ≠ none)
    (anchor : c.anchor = none ∨ c.anchor = s.comp.anchor) : s.Preserves { s with comp := c } where
  limits hs := { hs with compensation := range hs.compensation }
  roles hs := { hs with
    source := fun e => (source e).elim hs.source fun some => by
      obtain ⟨t, ht⟩ := Option.ne_none_iff_exists'.mp some
      exact ⟨t, s.tracker_role ht⟩
    anchor := fun e => hs.anchor ((anchor.resolve_left e) ▸ e) }
  counts hs := { hs with }

theorem State.grants_setCompensation (s : State) (q : SetCompensationReq) : s.Grants (setCompensation q s) := by
  unfold setCompensation
  split
  · exact s.grants_refuse _
  · split
    · next source policy hsource hpolicy =>
      split
      · exact s.grants_refuse _
      · next held =>
        have keeps : ∀ anchor, anchor = none ∨ anchor = s.comp.anchor →
            s.Preserves { s with comp := { q.apply source policy s.comp with anchor := anchor } } := by
          refine fun anchor ha => State.preserves_comp
            (fun h => { SetCompensationReq.apply_inRange q source policy h with }) (fun e => ?_) ha
          cases source with
          | none => exact .inl e
          | some src => exact .inr fun none => held ⟨congrArg some e, none⟩
        refine State.Preserves.grants ?_ _
        unfold State.applyCompensation
        dsimp only
        split <;> split
        · exact (keeps none (.inl rfl)).trans (State.quiet_emptyRing _).toPreserves
        · exact keeps none (.inl rfl)
        · exact (keeps _ (.inr rfl)).trans (State.quiet_emptyRing _).toPreserves
        · exact keeps _ (.inr rfl)
    · exact s.grants_refuse _

/-- A field of the environment record that is kept or replaced by a clamped value stays in its range (R54). -/
theorem replaced_bounds {lo hi : Int} {held v after : Option Int} (range : lo ≤ hi)
    (h : ∀ x, held = some x → lo ≤ x ∧ x ≤ hi) (kept : v = none → after = held)
    (replaced : ∀ a, v = some a → after = some (clamp lo hi a)) (x : Int) (hx : after = some x) : lo ≤ x ∧ x ≤ hi := by
  cases hv : v with
  | none => exact h x (kept hv ▸ hx)
  | some a =>
    rw [replaced a hv] at hx
    exact Option.some.inj hx ▸ clamp_bounds range a

theorem PutEnvironmentReq.apply_inRange (q : PutEnvironmentReq) {c : Comp} (h : c.SettingsInRange) {age : Nat}
    (hage : age ≤ 2 ^ 32 - 1) : { c with env := q.apply c.env, age := age }.SettingsInRange :=
  { h with
    tAir := replaced_bounds (v := signed q.tAir) (by decide) h.tAir
      (fun e => by simp [PutEnvironmentReq.apply, e]) fun a e => by simp [PutEnvironmentReq.apply, e]
    tScale := replaced_bounds (v := signed q.tScale) (by decide) h.tScale
      (fun e => by simp [PutEnvironmentReq.apply, e]) fun a e => by simp [PutEnvironmentReq.apply, e]
    pressure := replaced_bounds (v := signed q.p) (by decide) h.pressure
      (fun e => by simp [PutEnvironmentReq.apply, e]) fun a e => by simp [PutEnvironmentReq.apply, e]
    vapour := replaced_bounds (v := signed q.e) (by decide) h.vapour
      (fun e => by simp [PutEnvironmentReq.apply, e]) fun a e => by simp [PutEnvironmentReq.apply, e]
    age := hage }

theorem State.grants_putEnvironment (s : State) (q : PutEnvironmentReq) : s.Grants (putEnvironment q s) := by
  unfold putEnvironment
  split
  · exact s.grants_refuse _
  · have put : s.Preserves { s with comp := { s.comp with
        env := q.apply s.comp.env, age := if q.p.isSome ∨ q.tAir.isSome then 0 else s.comp.age } } :=
      State.preserves_comp (fun h => PutEnvironmentReq.apply_inRange q h (by split; exacts [Nat.zero_le _, h.age])) .inl (.inr rfl)
    refine State.Preserves.grants ?_ _
    dsimp only
    split
    · exact put.trans (State.quiet_raise _ _).toPreserves
    · exact put

theorem State.sustains_loseLatches (s : State) : s.Sustains s.loseLatches := by
  have lost : s.Sustains { s with eng := { s.eng with latches := [] } } :=
    State.sustains_eng ⟨⟨rfl, rfl, rfl, rfl, rfl, rfl, rfl, rfl⟩, List.nil_sublist _, .inr rfl, id⟩
  unfold State.loseLatches
  dsimp only
  split
  · exact lost
  · exact lost.trans (State.quiet_lostStrobe _).toSustains

theorem State.grants_setDetector (s : State) (q : SetDetectorReq) : s.Grants (setDetector q s) := by
  unfold setDetector
  split
  · exact s.grants_refuse _
  · split
    · exact s.grants_refuse _
    · dsimp only
      split
      · exact s.grants_refuse _
      · next mode _ band =>
        have set : s.Preserves { s with eng := q.apply mode s.completionClock s.eng } := {
          limits := fun hs => { hs with
            filter := by
              refine ⟨settle_bounds (by decide) hs.filter.1 _, ?_⟩
              simp only [SetDetectorReq.apply]
              split
              · exact hs.filter.1
              · exact hs.filter.2
            delay := settle_bounds (by decide) hs.delay _
            band := by
              obtain ⟨hmin, hmid, hmax⟩ := hs.band
              exact ⟨(settle_bounds (by decide) ⟨hmin, hmid.trans hmax⟩ _).1, not_lt.mp band,
                (settle_bounds (by decide) ⟨hmin.trans hmid, hmax⟩ _).2⟩
            missLimit := settle_bounds (by decide) hs.missLimit _ }
          roles := fun hs => { hs with }
          counts := fun hs => { hs with } }
        refine State.Preserves.grants (set.trans ?_) _
        unfold State.changeMode
        split
        · exact (State.sustains_loseLatches _).toPreserves.trans (State.quiet_discardPulse _ _).toPreserves
        · exact .refl _

theorem State.grants_setTraverse (s : State) (q : SetTraverseReq) : s.Grants (setTraverse q s) := by
  unfold setTraverse
  split
  · exact s.grants_refuse _
  · split
    · exact s.grants_refuse _
    · next span =>
      refine (State.preserves_trav fun h => ?_).grants _
      obtain ⟨hlo, hmid, hhi⟩ := h.span
      exact { h with
        span := ⟨(settle_bounds (by decide) ⟨hlo, (hmid.trans_le hhi).le⟩ _).1, not_le.mp span,
          (settle_bounds (by decide) ⟨(hlo.trans_lt hmid).le, hhi⟩ _).2⟩
        speeds := ⟨settle_bounds (by decide) h.speeds.1 _, settle_bounds (by decide) h.speeds.2 _⟩ }

theorem State.grants_setAttention (s : State) (q : SetAttentionReq) : s.Grants (setAttention q s) := by
  unfold setAttention
  split
  · exact s.grants_refuse _
  · split
    · exact s.grants_refuse _
    · exact (s.preserves_att _).grants _

/-! ### The line table (R80 to R84, R90, R91) -/

theorem State.grants_insertRecord (s : State) (q : InsertReq) : s.Grants (insertRecord q s) := by
  unfold insertRecord
  split
  · split
    · exact s.grants_refuse _
    · split
      · exact s.grants_refuse _
      · split
        · exact s.grants_refuse _
        · exact (s.preserves_table _).grants _
  · exact s.grants_refuse _

theorem State.grants_changeRecord (s : State) (q : ChangeReq) : s.Grants (changeRecord q s) := by
  unfold changeRecord
  split
  · exact s.grants_refuse _
  · refine onRecord_grants fun r => ?_
    unfold changeRecordOn
    dsimp only
    split
    · exact s.grants_refuse _
    · split
      · exact s.grants_refuse _
      · split
        · exact s.grants_refuse _
        · split
          · exact s.grants_refuse _
          · exact ((s.preserves_table _).trans (State.quiet_raiseIfCompleted _ _ _).toPreserves).grants _

theorem State.grants_retireRecordOn (s : State) (r : LineRec) : s.Grants (retireRecordOn r s) := by
  have removed : s.Preserves (s.setRecords (s.table.records.filter fun x => decide (x.label ≠ r.label))) :=
    s.preserves_table _
  exact (removed.trans (State.Quiet.ite _ (State.quiet_vacate _)).toPreserves).grants _

theorem State.grants_seek (s : State) (p : Int) : s.Grants (seek p s) := by
  unfold seek
  split
  · exact s.grants_refuse _
  · exact (s.preserves_table _).grants _

theorem State.grants_readNext (s : State) (filter : Byte) : s.Grants (readNext filter s) := by
  unfold readNext
  split
  · exact s.grants_refuse _
  · split
    · exact ⟨.refl s, (by decide : endMarker.payload.length ≤ 255)⟩
    · exact ⟨s.preserves_table _, (recordImage_length s _ false).trans_le (by norm_num)⟩

/-! ### The port and the resets (R161, R166, R174 to R176) -/

theorem State.preserves_hardReset (s : State) (rstnLow : Bool) : s.Preserves (s.hardReset rstnLow) where
  limits _ := { State.reset_limitsSound with }
  roles _ := { State.reset_rolesSound with }
  counts _ := { State.reset_countsSound with }

theorem State.preserves_softReset (s : State) : s.Preserves s.softReset where
  limits _ := { State.reset_limitsSound with
    response := fun r hr => by
      cases hr
      exact Nat.zero_le _ }
  roles _ := { State.reset_rolesSound with }
  counts _ := { State.reset_countsSound with }

theorem State.spares_resetBegin (s : State) : s.Spares s.resetBegin :=
  ((((State.quiet_trav (t := { s.trav with ctl := .idle }) (fun h => { h with direction := by simp })
    ⟨rfl, rfl, rfl, rfl⟩).trans
    (State.quiet_eng (e := { s.eng with occ := none, latches := [], pulse := none })
      ⟨⟨rfl, rfl, rfl, rfl, rfl, rfl, rfl, rfl⟩, List.nil_sublist _, .inl rfl, id⟩ rfl)).trans
    (State.quiet_probe _ { s.probe with run := none })).toSustains.spares).trans
    (State.spares_port (p := { s.port with link := .resetting }) fun r hr => by cases hr)

theorem State.spares_offerFrame (s : State) (f : Frame) : s.Spares (s.offerFrame f) := by
  have accepted : s.Spares (s.acceptFrame f) := by
    unfold State.acceptFrame
    split
    · exact s.spares_resetBegin
    · exact State.spares_port fun r hr => by cases hr
  unfold State.offerFrame
  split
  · exact accepted
  · exact accepted
  · exact (s.quiet_raise _).toSustains.spares
  · exact .refl s

theorem State.spares_drive (s : State) (bytes : List Byte) : s.Spares (s.drive bytes) :=
  State.spares_port fun _ h => .inl h

theorem State.spares_gainFooting (s : State) : s.Spares s.gainFooting := State.spares_port fun _ h => .inl h

theorem State.spares_transaction {s : State} {judge : State → State} (h : s.Spares (judge s)) :
    s.Spares (s.transaction judge) := by
  unfold State.transaction
  split
  · exact .refl s
  · split
    · exact h
    · exact s.spares_gainFooting

end Sys2Proof.Machine

namespace Sys2Proof.Machine

/-! ### Every command -/

/-- The events of the clock, the samples and the strobe path (R2, R4, R46, R110, R113, R115) sustain: the port is not theirs. -/
theorem exec_path_sustains {i : Instr} {s t : State} (x : SampleIn) (level : Bool) (at' held : Nat)
    (hi : i = .sampleCounted x ∨ i = .bridgeCheck x ∨ i = .coastTimeout x ∨ i = .settleComplete x ∨
      i = .saturationSet x ∨ i = .saturationClear x ∨ i = .probeComplete x ∨ i = .update ∨ i = .envStaleCondition ∨
      i = .edgeAccept level at' held ∨ i = .latchComplete ∨ i = .alignedSample)
    (e : exec i s = .next t) : s.Sustains t := by
  obtain rfl | rfl | rfl | rfl | rfl | rfl | rfl | rfl | rfl | rfl | rfl | rfl := hi <;> cases e
  · exact s.sustains_countSample x
  · exact s.sustains_countIf x _
  · exact s.sustains_countIf x _
  · exact s.sustains_countIf x _
  · exact s.sustains_countIf x _
  · exact s.sustains_countIf x _
  · split
    · exact s.sustains_countSample x
    · exact .refl s
  · exact s.quiet_update.toSustains
  · exact (State.Quiet.ite _ s.quiet_update).toSustains
  · split
    · exact s.sustains_confirmLevel level at'
    · exact .refl s
  · split
    · exact State.sustains_latches (fun h => (s.completeFirst_length _).trans_le h) fun hs => hs.completeFirst hs.edges
    · exact .refl s
  · split
    · exact s.sustains_reachAligned
    · exact .refl s

/-- A command that is no setting's own and no conversion leaves every setting and the conversions, and keeps the invariants. -/
theorem exec_spares {i : Instr} {s t : State} (keeps : keepsSettings i = true) (clock : i ≠ .conversion)
    (e : exec i s = .next t) : s.Spares t := by
  have path := fun x level at' held hi => (exec_path_sustains (i := i) x level at' held hi e).spares
  have any : SampleIn := ⟨0, 0, 0, 0, false⟩
  cases i with
  | conversion => exact absurd rfl clock
  | powerOn | rstnAssert | rstnRelease | resetPart | setChannel _ | setQuadrature _ | setMonitor _ | setCompensation _
    | setDetector _ | setTraverse _ | setAttention _ | putEnvironment _ | insertRecord _ | changeRecord _
    | retireRecord _ | seek _ | readNext _ => cases keeps
  | sampleCounted x | bridgeCheck x | coastTimeout x | settleComplete x | saturationSet x | saturationClear x
    | probeComplete x => exact path x false 0 0 (by simp)
  | update | envStaleCondition | latchComplete | alignedSample => exact path any false 0 0 (by simp)
  | edgeAccept level at' held => exact path any level at' held (by simp)
  | emptyTransaction bits =>
    cases e
    exact State.spares_transaction (.refl s)
  | requestFrame bytes tail =>
    cases e
    split
    · exact State.spares_transaction ((s.spares_drive _).trans (State.spares_offerFrame _ _))
    · exact .refl s
  | fetch n =>
    cases e
    exact State.spares_transaction (s.spares_drive _)
  | csnSeenHigh =>
    cases e
    split
    · exact .refl s
    · exact s.spares_gainFooting
  | frameError => exact complete_spares (⟨(s.quiet_raise _).toSustains, Nat.zero_le _⟩) e
  | unknown => exact complete_spares (s.serves_refuse _) e
  | channelOn ch => exact complete_spares (onChannel_serves s.serves_channelOnAt) e
  | channelOff ch => exact complete_spares (onChannel_serves s.serves_channelOffAt) e
  | preset ch value => exact complete_spares (onChannel_serves (s.serves_presetAt _)) e
  | home => exact complete_spares (s.serves_home) e
  | anchorTracker nu unlisted => exact complete_spares (s.serves_anchorTracker nu unlisted) e
  | startPlan count => exact complete_spares (s.serves_startPlan count) e
  | stopPlan => exact complete_spares (s.serves_stopPlan) e
  | endPass => exact complete_spares (s.serves_endPassRequest) e
  | probe ch k => exact complete_spares (onChannel_serves (s.serves_probeAt _)) e
  | setRecordState label state => exact complete_spares (onRecord_serves (s.serves_setRecordStateOn state)) e
  | clearResults label unlisted => exact complete_spares (s.serves_clearResults label unlisted) e
  | clearResultsAll unlisted => exact complete_spares (s.serves_clearResultsAll unlisted) e
  | readRecord label => exact complete_spares (s.serves_readRecord _) e
  | findPosition p => exact complete_spares (s.serves_findPosition _) e
  | readResult label => exact complete_spares (s.serves_readResult _) e
  | readInterval a b => exact complete_spares (s.serves_readInterval _ _) e
  | readChannel ch => exact complete_spares (s.serves_readChannel ch) e
  | readCompensation => exact complete_spares (s.serves_image ((compensationImage_length s).trans_le (by norm_num))) e
  | readTraverse => exact complete_spares (s.serves_image ((traverseImage_length s).trans_le (by norm_num))) e
  | readProbe => exact complete_spares (s.serves_image ((probeImage_length s.probe).trans_le (by norm_num))) e
  | readAttention =>
    exact complete_spares (f := fun s => image (attentionImage s) s) (s.serves_image ((attentionImage_length s).trans_le (by norm_num))) e
  | acknowledge set => exact complete_spares (s.serves_acknowledge set) e

/-- A conversion issued is in no invariant, and is no setting. -/
theorem State.preserves_conversions (s : State) (n : Nat) : s.Preserves { s with conversions := n } where
  limits hs := { hs with }
  roles hs := { hs with }
  counts hs := { hs with }

/-- Every command keeps the invariants of limits, roles and counts. -/
theorem exec_preserves {i : Instr} {s t : State} (e : exec i s = .next t) : s.Preserves t := by
  by_cases keeps : keepsSettings i = true ∧ i ≠ .conversion
  · exact (exec_spares keeps.1 keeps.2 e).toPreserves
  cases i with
  | conversion =>
    cases e
    split
    · exact s.preserves_conversions _
    · exact .refl s
  | powerOn | rstnAssert =>
    cases e
    exact s.preserves_hardReset _
  | rstnRelease =>
    cases e
    split
    · exact s.preserves_hardReset _
    · exact .refl s
  | resetPart =>
    cases e
    split
    · exact s.preserves_softReset
    · exact .refl s
  | setChannel q => exact complete_preserves (s.grants_setChannel q) e
  | setQuadrature q => exact complete_preserves (onChannel_grants (s.grants_setQuadratureOn q)) e
  | setMonitor q => exact complete_preserves (s.grants_setMonitor q) e
  | setCompensation q => exact complete_preserves (s.grants_setCompensation q) e
  | setDetector q => exact complete_preserves (s.grants_setDetector q) e
  | setTraverse q => exact complete_preserves (s.grants_setTraverse q) e
  | setAttention q => exact complete_preserves (s.grants_setAttention q) e
  | putEnvironment q => exact complete_preserves (s.grants_putEnvironment q) e
  | insertRecord q => exact complete_preserves (s.grants_insertRecord q) e
  | changeRecord q => exact complete_preserves (s.grants_changeRecord q) e
  | retireRecord label => exact complete_preserves (onRecord_grants s.grants_retireRecordOn) e
  | seek p => exact complete_preserves (s.grants_seek _) e
  | readNext filter => exact complete_preserves (s.grants_readNext filter) e
  | _ => exact absurd ⟨rfl, by simp⟩ keeps

/-- The queue is in no invariant: what the commands keep, a step keeps. -/
theorem step_preserves {s t : State} (e : step s = .next t) : s.Preserves t := by
  have popped : ∀ rest, s.Preserves { s with pending := rest } := fun rest =>
    ⟨fun hs => { hs with }, fun hs => { hs with }, fun hs => { hs with }⟩
  unfold step at e
  split at e
  · cases e
    exact .refl s
  · exact (popped _).trans (exec_preserves e)

/-- Settles O56: every operation of the model keeps the counts, edges and pulse sound, and a step is one command of them. -/
theorem stepKeepsCountsSound : Obligations.StepKeepsCountsSound := fun _ _ hs e => (step_preserves e).counts hs

/-- Settles O57: roles, index source and anchor change by SET_CHANNEL, SET_COMPENSATION, ANCHOR_TRACKER, resets and the state of
the tracker alone. -/
theorem stepKeepsRolesSound : Obligations.StepKeepsRolesSound := fun _ _ hs e => (step_preserves e).roles hs

/-- Settles O60: each block's writes stay within the limits it states. -/
theorem stepKeepsLimitsSound : Obligations.StepKeepsLimitsSound := fun _ _ hs e => (step_preserves e).limits hs

end Sys2Proof.Machine

namespace Sys2Proof.Machine

/-! ### What a sample leaves of the channels (R3) -/

theorem State.judgeAnchor_chans (s : State) (c : Fin 4) : (s.judgeAnchor c).chans = s.chans := by
  unfold State.judgeAnchor
  split <;> rfl

/-- The channel that counts a sample is left as its count leaves it (R4). -/
theorem State.countNow_chan_self (s : State) (x : SampleIn) :
    (s.countNow x).chan x.ch = ((s.chan x.ch).count x).ch := by
  rw [State.chan_congr (s.countNow_quiet x).chans, State.chan_congr (State.judgeAnchor_chans _ _),
    State.chan_setChan_self]

theorem State.countNow_chan_ne (s : State) (x : SampleIn) {c : Fin 4} (h : c ≠ x.ch) :
    (s.countNow x).chan c = s.chan c := by
  rw [State.chan_congr (s.countNow_quiet x).chans, State.chan_congr (State.judgeAnchor_chans _ _),
    State.chan_setChan_ne _ _ h]

theorem State.countSample_of_mayCount {s : State} {x : SampleIn} (h : s.mayCount x = true) :
    s.countSample x = (s.dueFirst x.ch).countNow x := if_pos h

theorem State.countSample_of_not_mayCount {s : State} {x : SampleIn} (h : s.mayCount x = false) :
    s.countSample x = s := if_neg (by simp [h])

/-- A sample leaves another channel as the aligned track, taken first, leaves it. -/
theorem State.countSample_chan_ne (s : State) (x : SampleIn) {c : Fin 4} (h : c ≠ x.ch) :
    ∃ u, s.Homing u ∧ (s.countSample x).chan c = u.chan c := by
  cases may : s.mayCount x with
  | true => exact ⟨_, s.homing_dueFirst x.ch, by rw [State.countSample_of_mayCount may, State.countNow_chan_ne _ x h]⟩
  | false => exact ⟨s, .refl s, by rw [State.countSample_of_not_mayCount may]⟩

theorem State.active_iff {s : State} : s.active = true ↔ s.rstnLow = false ∧ s.port.link ≠ .resetting := by
  simp [State.active, State.resetting]

theorem State.mayCount_iff {s : State} {x : SampleIn} :
    s.mayCount x = true ↔ s.rstnLow = false ∧ s.port.link ≠ .resetting ∧ x.k < s.conversions ∧
      (s.chan x.ch).state ≠ .off ∧
      (if (s.chan x.ch).first = none then (s.chan x.ch).next ≤ x.k else x.k = (s.chan x.ch).next) := by
  have number : ((s.chan x.ch).first = none ∧ (s.chan x.ch).next ≤ x.k ∨
      ∃ first, (s.chan x.ch).first = some first ∧ x.k = (s.chan x.ch).next) ↔
      (if (s.chan x.ch).first = none then (s.chan x.ch).next ≤ x.k else x.k = (s.chan x.ch).next) := by
    cases (s.chan x.ch).first <;> simp
  simp only [State.mayCount, Bool.and_eq_true, State.active_iff, Channel.mayCount_iff, decide_eq_true_eq, number,
    and_assoc]

theorem State.sameSettings_conversion {s t : State} (e : exec .conversion s = .next t) : s.SameSettings t := by
  cases e
  split
  · exact { State.SameSettings.refl s with }
  · exact .refl s

/-- Settles O25: a sample reaches another channel by a HOME strobe alone, and settings are no command's but their own. -/
theorem commandsKeepWhatTheyDoNotOwn : Obligations.CommandsKeepWhatTheyDoNotOwn := by
  refine ⟨fun x c s t e apart => ?_, fun x s => ⟨State.mayCount_iff, fun no => ?_⟩, fun i s t keeps e => ?_,
    fun x level at' held s t e => ?_⟩
  · cases e
    obtain ⟨u, homing, same⟩ := s.countSample_chan_ne x apart
    rw [same]
    exact ⟨homing.origins c, fun unarmed => State.chan_congr (homing.unarmed unarmed).1 c⟩
  · exact congrArg _ (State.countSample_of_not_mayCount no)
  · by_cases clock : i = .conversion
    · exact ⟨State.sameSettings_conversion (clock ▸ e), absurd clock⟩
    · exact ⟨(exec_spares keeps clock e).settings, fun _ => (exec_spares keeps clock e).conversions⟩
  · have path := fun i hi e => (exec_path_sustains (i := i) (s := s) (t := t) x level at' held hi e).port
    obtain e | e | e | e | e | e | e | e | e | e | e | e := e <;> exact path _ (by simp) e

/-! ### Resets (R2, R24, R174, R176) -/

/-- Settles O2: the reset state written out, block by block. -/
theorem resetLeavesEveryBlockAtItsDefaults : Obligations.ResetLeavesEveryBlockAtItsDefaults := by
  refine ⟨fun c => ?_, rfl, ?_, rfl, rfl, rfl, ?_, ?_, rfl⟩
  · fin_cases c <;> rfl
  · decide
  · decide
  · decide

/-- Settles O4: each reset event puts `State.reset` in the part's place, its pin and the queue apart. -/
theorem powerOnAndRstnResetThePart : Obligations.PowerOnAndRstnResetThePart := by
  refine ⟨fun s => rfl, fun s => rfl, fun s low => ?_, fun s high => ?_⟩
  · exact congrArg _ (if_pos low)
  · exact congrArg _ (if_neg (by simp [high]))

/-- Settles O6: every event of the clock, the samples and the strobe path asks for an active part. -/
theorem samplesAndUpdatesPauseDuringAReset : Obligations.SamplesAndUpdatesPauseDuringAReset := by
  refine ⟨fun s high free => ?_, fun s x level t held reset => ?_⟩
  · exact congrArg _ (if_pos (State.active_iff.mpr ⟨high, free⟩))
  · have idle : s.active = false := by
      rw [Bool.eq_false_iff, ne_eq, State.active_iff]
      rintro ⟨high, free⟩
      exact reset.elim (by simp [high]) free
    have sample : s.countSample x = s := State.countSample_of_not_mayCount (by simp [State.mayCount, idle])
    have kind : ∀ k, s.countIf x k = s := fun k => by simp [State.countIf, sample]
    have update : s.update = s := by simp [State.update, idle]
    refine ⟨⟨?_, congrArg _ sample, congrArg _ (kind _), congrArg _ (kind _), congrArg _ (kind _), congrArg _ (kind _),
      congrArg _ (kind _), ?_, congrArg _ update, ?_, ?_, ?_, ?_⟩, ?_, ?_, ?_⟩
    · simp [exec, execConversion, idle]
    · simp [exec, execProbeComplete, sample]
    · simp [exec, execEnvStaleCondition, update]
    · simp [exec, execEdgeAccept, idle]
    · simp [exec, execLatchComplete, idle]
    · simp [exec, execAlignedSample, idle]
    · simp [State.attn, idle]
    · simp [State.mstop, idle]
    · simp [State.win, idle]

end Sys2Proof.Machine

namespace Sys2Proof.Machine

/-! ### A PORT sample (R6, R9) -/

theorem divDown_bounds (a : Int) {b : Int} (hb : 0 < b) : b * divDown a b ≤ a ∧ a < b * (divDown a b + 1) :=
  ⟨Int.mul_ediv_self_le hb.ne', Int.lt_mul_ediv_self_add hb |>.trans_eq (by unfold divDown; ring)⟩

theorem Channel.point_port {ch : Channel} (h : ch.source = .port) (x : SampleIn) :
    ch.point x = portPoint ch.codes ch.phiOld x := by
  simp [Channel.point, h]

/-- Settles O16: the two quotients of stages 2 and 3 are the witnesses, and the radius is the greatest square's root. -/
theorem portSampleIsCorrected : Obligations.PortSampleIsCorrected := by
  intro ch x port
  obtain ⟨hx, hy⟩ := ch.codes.correct_bounds x.sin.toInt x.cos.toInt
  obtain ⟨⟨hr0, hr1⟩, hsq, hnext⟩ := radiusOf_spec hx hy
  simp only [Channel.point_port port]
  refine ⟨⟨_, _, divDown_bounds _ (by norm_num), divDown_bounds _ (by norm_num), clamp_eq (by norm_num) _,
    clamp_eq (by norm_num) _⟩, ⟨hr0, hr1, hsq, hnext⟩, fun zx zy => if_pos ⟨zx, zy⟩, fun off => if_neg ?_, rfl⟩
  rintro ⟨zx, zy⟩
  exact off.elim (· zx) (· zy)

/-! ### Requests to a channel -/

theorem onChannel_of_toNat {b : Byte} {c : Fin 4} (h : b.toNat = c.val) (f : Fin 4 → State → State × Response)
    (s : State) : onChannel b f s = f c s := by
  simp [onChannel, channelOf_eq_some.mpr h]

/-- The status of an accepted request (R172, R173). -/
theorem accepted_eq (clamped : Bool) : accepted clamped = ⟨if clamped then .clamped else .ok, []⟩ := rfl

theorem settle_eq {lo hi : Int} (h : lo ≤ hi) (held : Int) (v : Option Int) :
    settle lo hi held v = (v.map fun x => max lo (min hi x)).getD held := by
  cases v with
  | none => rfl
  | some v => exact clamp_eq h v

theorem outside_eq (lo hi : Int) (v : Option Int) :
    outside lo hi v = (v.map fun x => decide (x < lo ∨ hi < x)).getD false := by
  cases v with
  | none => rfl
  | some v => simp [outside]

/-- A present unsigned field is set to its clamped value (R26). -/
theorem settle_unsigned {w : Nat} {lo hi : Int} (h : lo ≤ hi) (held : Int) (v : Option (BitVec w)) :
    settle lo hi held (unsigned v) = (v.map fun b => max lo (min hi (b.toNat : Int))).getD held := by
  rw [settle_eq h, unsigned, Option.map_map]
  rfl

theorem outside_unsigned {w : Nat} (lo hi : Int) (v : Option (BitVec w)) :
    outside lo hi (unsigned v) = (v.map fun b => decide ((b.toNat : Int) < lo ∨ hi < (b.toNat : Int))).getD false := by
  rw [outside_eq, unsigned, Option.map_map]
  rfl

/-! ### SET_QUADRATURE and SET_MONITOR (R7, R26) -/

theorem SetQuadratureReq.codes_eq (q : SetQuadratureReq) :
    q.codes = ⟨max (-8192) (min 8191 q.offS.toInt), max (-8192) (min 8191 q.offC.toInt), q.g.toNat,
      min 32767 q.hs.toNat, max (-16384) (min 16383 q.p.toInt)⟩ := by
  have hg := q.g.isLt
  unfold SetQuadratureReq.codes
  congr 1
  · exact clamp_eq (by norm_num) _
  · exact clamp_eq (by norm_num) _
  · rw [clamp_eq (by norm_num)]
    omega
  · rw [clamp_eq (by norm_num)]
    omega
  · exact clamp_eq (by norm_num) _

theorem SetQuadratureReq.clamps_eq_false {q : SetQuadratureReq} :
    q.clamps = false ↔ -8192 ≤ q.offS.toInt ∧ q.offS.toInt ≤ 8191 ∧ -8192 ≤ q.offC.toInt ∧ q.offC.toInt ≤ 8191 ∧
      q.hs.toNat ≤ 32767 ∧ -16384 ≤ q.p.toInt ∧ q.p.toInt ≤ 16383 := by
  have hg := q.g.isLt
  simp only [SetQuadratureReq.clamps, outside, Bool.or_eq_false_iff, decide_eq_false_iff_not]
  omega

theorem SetMonitorReq.apply_eq (q : SetMonitorReq) (m : MonSet) :
    q.apply m =
      ⟨(q.rLow.map fun b => max 0 (min 46340 (b.toNat : Int))).getD m.rLow,
        (q.rHyst.map fun b => max 0 (min 8191 (b.toNat : Int))).getD m.rHyst,
        (q.rHigh.map fun b => max 0 (min 46340 (b.toNat : Int))).getD m.rHigh,
        (q.nd.map fun b => max 1 (min 64 (b.toNat : Int))).getD m.nd,
        (q.nr.map fun b => max 1 (min 64 (b.toNat : Int))).getD m.nr,
        (q.tShort.map fun b => max 1 (min 2000 (b.toNat : Int))).getD m.tShort,
        (q.tSettle.map fun b => max 1 (min 255 (b.toNat : Int))).getD m.tSettle,
        (q.tol.map fun b => max 64 (min 1024 (b.toNat : Int))).getD m.tol,
        (q.limit.map fun b => max 256 (min 1536 (b.toNat : Int))).getD m.limit⟩ := by
  unfold SetMonitorReq.apply
  congr 1 <;> exact settle_unsigned (by norm_num) _ _

/-- Settles O27. -/
theorem quadratureAndMonitorSettingsAreStored : Obligations.QuadratureAndMonitorSettingsAreStored := by
  refine ⟨fun q c s awaited hc => ?_, fun q c s awaited listed hc => ?_⟩
  · have status : (accepted q.clamps : Response) = ⟨if -8192 ≤ q.offS.toInt ∧ q.offS.toInt ≤ 8191 ∧
        -8192 ≤ q.offC.toInt ∧ q.offC.toInt ≤ 8191 ∧ q.hs.toNat ≤ 32767 ∧ -16384 ≤ q.p.toInt ∧ q.p.toInt ≤ 16383
        then .ok else .clamped, []⟩ := by
      rw [accepted_eq]
      cases clamps : q.clamps with
      | false => exact congrArg (Response.mk · []) (if_pos (SetQuadratureReq.clamps_eq_false.mp clamps)).symm
      | true =>
        refine congrArg (Response.mk · []) (if_neg fun range => ?_).symm
        simp [SetQuadratureReq.clamps_eq_false.mpr range] at clamps
    refine (complete_of_awaits awaited _).trans ?_
    rw [onChannel_of_toNat hc, setQuadratureOn, status, SetQuadratureReq.codes_eq]
    rfl
  · refine (complete_of_awaits awaited _).trans ?_
    rw [setMonitor, if_neg (not_not.mpr listed), onChannel_of_toNat hc, setMonitorOn, accepted_eq,
      SetMonitorReq.apply_eq, SetMonitorReq.clamps]
    simp only [outside_unsigned]
    rfl

/-! ### CHANNEL_ON and PRESET (R17, R18, R28) -/

theorem Role.inPosition_iff {r : Role} : r.inPosition = true ↔ r = .measure ∨ r = .partner := by
  simp [Role.inPosition]

theorem State.inPass_iff {s : State} {c : Fin 4} :
    s.inPass c = true ↔ ((s.chan c).role = .measure ∨ (s.chan c).role = .partner) ∧ s.trav.ctl = .running := by
  simp [State.inPass, Role.inPosition_iff, State.running]

/-- A position ring emptied under a condition. -/
theorem State.ite_emptyRing {p q : Prop} [Decidable p] [Decidable q] (h : p ↔ q) (s : State) :
    (if p then s.emptyRing else s) = { s with trav := { s.trav with ring := if q then [] else s.trav.ring } } := by
  by_cases hp : p
  · rw [if_pos hp, if_pos (h.mp hp)]
    rfl
  · rw [if_neg hp, if_neg (mt h.mpr hp)]

/-- Settles O28. -/
theorem channelOnStartsFromZero : Obligations.ChannelOnStartsFromZero := by
  intro b c s awaited hc
  have run := (complete_of_awaits awaited (onChannel b channelOnAt)).trans (by rw [onChannel_of_toNat hc])
  refine ⟨fun off => run.trans ?_, fun on => run.trans ?_⟩
  · rw [channelOnAt, if_neg (not_not.mpr off)]
    dsimp only
    rw [State.ite_emptyRing Role.inPosition_iff]
    rfl
  · rw [channelOnAt, if_pos on]
    rfl

/-- Settles O30: the checks in their order, then the origin of which the value is the eighth-count. -/
theorem presetSetsTheOrigin : Obligations.PresetSetsTheOrigin := by
  intro b v c s awaited hc
  have run := (complete_of_awaits awaited (onChannel b (presetAt v.toInt))).trans (by rw [onChannel_of_toNat hc])
  have range : (Config.originMax < mag v.toInt ∨ Config.originMax < mag (presetOrigin (s.chan c) v.toInt)) ↔
      (8 * (2 ^ 39 - 1) < |v.toInt| ∨ 8 * (2 ^ 39 - 1) < |8 * (s.chan c).q - v.toInt|) := by
    rw [mag_eq_abs, mag_eq_abs]
    rfl
  refine ⟨fun off => run.trans ?_, fun on position running => run.trans ?_, fun on free out => run.trans ?_,
    fun on free value origin => ⟨run.trans ?_, sub_sub_cancel _ _⟩⟩
  · rw [presetAt, if_pos off]
    rfl
  · rw [presetAt, if_neg (not_not.mpr on), if_pos (State.inPass_iff.mpr ⟨position, running⟩)]
    rfl
  · rw [presetAt, if_neg (not_not.mpr on), if_neg (mt State.inPass_iff.mp free), if_pos (range.mpr out)]
    rfl
  · rw [presetAt, if_neg (not_not.mpr on), if_neg (mt State.inPass_iff.mp free),
      if_neg (mt range.mp (not_or.mpr ⟨not_lt.mpr value, not_lt.mpr origin⟩))]
    simp only [State.applyPreset]
    rw [State.ite_emptyRing (and_congr_left' Role.inPosition_iff)]
    rfl

end Sys2Proof.Machine

namespace Sys2Proof.Machine

/-! ### A pass that is broken (R104, R105) -/

theorem satInc_eq_min (top n : Nat) : satInc top n = min top (n + 1) := by
  unfold satInc
  split <;> omega

theorem State.applyValues_trav (s : State) (nu : Int) (t : Option Int) :
    (s.applyValues nu t).trav = { s.trav with ring := (s.applyValues nu t).trav.ring } := by
  unfold State.applyValues
  dsimp only
  split <;> rfl

theorem State.passHoldStep_trav (s : State) :
    s.passHoldStep.trav = { s.trav with ring := s.passHoldStep.trav.ring } := by
  unfold State.passHoldStep
  split
  · exact s.applyValues_trav _ _
  · rfl

/-- A pass that is broken leaves the controller WAITING, counts toward the broken passes and not toward the plan (R105). -/
theorem State.endPass_broken_trav {s : State} (running : s.trav.ctl = .running) (inStop : Bool) :
    (s.endPass .broken inStop).trav = { s.trav with
      ctl := .waiting, broken := min 65535 (s.trav.broken + 1), ring := (s.endPass .broken inStop).trav.ring } := by
  have spared : ∀ t : Traverse, t.debited .broken = false := fun t => by simp [Traverse.debited]
  simp only [State.endPass, (State.running_iff s).mpr running, if_true, State.note_trav, State.accountPlan, spared,
    Bool.false_eq_true, if_false, brokenAfter, satInc_eq_min]
  rw [State.passHoldStep_trav]
  simp

/-! ### SET_CHANNEL (R20 to R22, R98, R104) -/

/-- The factors after a channel is written: M of the channel anew where its λ or K changes (R22, R63). -/
def State.refactored (s : State) (c : Fin 4) (after : Channel) : Vector Int 4 :=
  if (s.chan c).lambda ≠ after.lambda ∨ (s.chan c).passK ≠ after.passK then
    s.comp.factors.set c (lengthFactor after.lambda after.passK s.comp.nuApplied)
  else s.comp.factors

/-- The velocity ring after a channel is written (R98). -/
def State.rerung (s : State) (c : Fin 4) (after : Channel) : List Int :=
  if movesPosition (s.chan c) after then [] else s.trav.ring

/-- What SET_CHANNEL writes, a pass that it breaks apart. -/
def State.withChannel (s : State) (c : Fin 4) (after : Channel) : State :=
  { s with
    chans := s.chans.set c after
    comp := { s.comp with factors := s.refactored c after }
    trav := { s.trav with ring := s.rerung c after } }

theorem State.applyChannel_eq (s : State) (c : Fin 4) (after : Channel) :
    s.applyChannel c after =
      if (s.chan c).role ≠ .partner ∧ after.role = .partner then (s.withChannel c after).endPass .broken false
      else s.withChannel c after := by
  have factored : (if (s.chan c).lambda ≠ after.lambda ∨ (s.chan c).passK ≠ after.passK then
      (s.setChan c after).refactor c else s.setChan c after) =
      { s with chans := s.chans.set c after, comp := { s.comp with factors := s.refactored c after } } := by
    unfold State.refactored
    split
    · simp only [State.refactor, State.factorOf, State.chan_setChan_self]
      rfl
    · rfl
  unfold State.applyChannel
  dsimp only
  rw [factored, State.ite_emptyRing Iff.rfl]
  rfl

/-- A change of the sense, the source or the step alone moves nothing else (R22, R98). -/
theorem State.applyChannel_of_same {s : State} {c : Fin 4} {after : Channel} (role : after.role = (s.chan c).role)
    (lambda : after.lambda = (s.chan c).lambda) (passK : after.passK = (s.chan c).passK)
    (datum : after.datum = (s.chan c).datum) : s.applyChannel c after = s.setChan c after := by
  have still : movesPosition (s.chan c) after = false := by
    simp [movesPosition, role, lambda, passK, datum]
  simp [State.applyChannel, still, role, lambda, passK]

theorem State.refactored_get (s : State) (c c' : Fin 4) (after : Channel) :
    (s.refactored c after)[c'] =
      if c' = c ∧ (after.lambda ≠ (s.chan c).lambda ∨ after.passK ≠ (s.chan c).passK) then
        lengthFactor after.lambda after.passK s.comp.nuApplied
      else s.comp.factors[c'] := by
  unfold State.refactored
  by_cases changed : after.lambda ≠ (s.chan c).lambda ∨ after.passK ≠ (s.chan c).passK
  · rw [if_pos (changed.imp Ne.symm Ne.symm)]
    by_cases same : c' = c
    · subst same
      simp [changed]
    · have apart : (c : Nat) ≠ c' := fun e => same (Fin.ext e.symm)
      simp [same, apart]
  · rw [if_neg fun h => changed (h.imp Ne.symm Ne.symm), if_neg fun h => changed h.2]

theorem movesPosition_iff {before after : Channel} :
    movesPosition before after = true ↔ after.role ≠ before.role ∨ ((after.role = .measure ∨ after.role = .partner) ∧
      (after.lambda ≠ before.lambda ∨ after.passK ≠ before.passK ∨ after.datum ≠ before.datum)) := by
  simp only [movesPosition, Bool.or_eq_true, Bool.and_eq_true, decide_eq_true_eq, Role.inPosition_iff, ne_comm, or_assoc]

/-- The fields that a SET_CHANNEL writes, the numeric ones clamped (R21). -/
theorem SetChannelReq.apply_eq (q : SetChannelReq) (role : Option Role) (sense : Option Sense) (passK : Option Int)
    (source : Option InSource) (ch : Channel) :
    q.apply role sense passK source ch = { ch with
      role := role.getD ch.role, sense := sense.getD ch.sense, passK := passK.getD ch.passK
      lambda := ((q.lambda.map fun v => (v.toNat : Int)).map fun v => max 400000000 (min 1000000000 v)).getD ch.lambda
      datum := ((q.datum.map fun v => (v.toNat : Int)).map fun v => max 0 (min 4000000 v)).getD ch.datum
      source := source.getD ch.source
      step := ((q.step.map BitVec.toInt).map fun v => max (-2047) (min 2047 v)).getD ch.step } := by
  unfold SetChannelReq.apply
  rw [settle_eq (by norm_num), settle_eq (by norm_num), settle_eq (by norm_num)]
  rfl

theorem SetChannelReq.clamps_eq (q : SetChannelReq) :
    q.clamps = (((q.lambda.map fun v => (v.toNat : Int)).map fun x => decide (x < 400000000 ∨ 1000000000 < x)).getD false ||
      ((q.datum.map fun v => (v.toNat : Int)).map fun x => decide (x < 0 ∨ 4000000 < x)).getD false ||
      ((q.step.map BitVec.toInt).map fun x => decide (x < -2047 ∨ 2047 < x)).getD false) := by
  unfold SetChannelReq.clamps
  rw [outside_eq, outside_eq, outside_eq]
  rfl

theorem SetChannelReq.beyondStep_iff {q : SetChannelReq} :
    q.beyondStep = true ↔
      q.role ≠ none ∨ q.sense ≠ none ∨ q.passK ≠ none ∨ q.lambda ≠ none ∨ q.datum ≠ none ∨ q.source ≠ none := by
  simp only [SetChannelReq.beyondStep, Bool.or_eq_true, Option.isSome_iff_ne_none, or_assoc]

/-- SET_CHANNEL addressed to a channel that there is, with no unlisted flag (R21, R163). -/
theorem exec_setChannel {q : SetChannelReq} {c : Fin 4} {s : State} (awaited : s.awaits (.setChannel q) = true)
    (listed : q.unlisted = 0) (hc : q.ch.toNat = c.val) :
    exec (.setChannel q) s = .next ((setChannelOn q c s).1.respond (setChannelOn q c s).2) := by
  refine (complete_of_awaits awaited _).trans ?_
  rw [setChannel, if_neg (not_not.mpr listed), onChannel_of_toNat hc]

/-- A SET_CHANNEL that passes the checks of R21 is applied. -/
theorem setChannelOn_accepted {q : SetChannelReq} {c : Fin 4} {s : State} {role : Option Role} {sense : Option Sense}
    {passK : Option Int} {source : Option InSource} (free : ¬((s.chan c).state ≠ .off ∧ q.beyondStep = true))
    (hr : named roleOf q.role = some role) (hs : named senseOf q.sense = some sense)
    (hk : named passKOf q.passK = some passK) (hi : named inSourceOf q.source = some source)
    (legal : s.roleConflict c (role.getD (s.chan c).role) = false) :
    setChannelOn q c s = (s.applyChannel c (q.apply role sense passK source (s.chan c)), accepted q.clamps) := by
  simp only [setChannelOn, if_neg free, hr, hs, hk, hi, legal, Bool.false_eq_true, if_false]

/-- A role equal to the one held is no conflict (R21). -/
theorem State.roleConflict_self (s : State) (c : Fin 4) : s.roleConflict c (s.chan c).role = false := by
  simp [State.roleConflict]

theorem State.roleConflict_eq_true {s : State} {c : Fin 4} {role : Role} (changed : role ≠ (s.chan c).role)
    (h : c = 0 ∨ role = .measure ∨ (role = .partner ∧ s.partner ≠ none) ∨ (role = .tracker ∧ s.tracker ≠ none) ∨
      ((s.chan c).role = .tracker ∧ s.comp.source = .tracker)) : s.roleConflict c role = true := by
  simp only [State.roleConflict, Bool.and_eq_true, Bool.or_eq_true, decide_eq_true_eq, Option.isSome_iff_ne_none]
  exact ⟨changed, by tauto⟩

theorem passKOf_eq_none {b : Byte} (h : b.toNat ∉ [1, 2, 4, 8]) : passKOf b = none := by
  unfold passKOf
  split <;> simp_all

theorem senseOf_eq_none {b : Byte} (h : b.toNat ∉ [1, 255]) : senseOf b = none := by
  unfold senseOf
  split <;> simp_all

theorem inSourceOf_eq_none {b : Byte} (h : b.toNat ∉ [0, 1]) : inSourceOf b = none := by
  unfold inSourceOf
  split <;> simp_all

/-- A K, sense or source that names nothing is refused with RANGE, after the role (R21). -/
theorem setChannelOn_range {q : SetChannelReq} {c : Fin 4} {s : State} (off : (s.chan c).state = .off)
    (hr : q.role = none)
    (h : named passKOf q.passK = none ∨ named senseOf q.sense = none ∨ named inSourceOf q.source = none) :
    setChannelOn q c s = refuse .range s := by
  have none : named roleOf q.role = some none := by rw [hr]; rfl
  simp only [setChannelOn, off, ne_eq, not_true_eq_false, false_and, if_false, none, Option.getD_none,
    s.roleConflict_self c, Bool.false_eq_true]
  split
  · next hs hk hi => simp [hs, hk, hi] at h
  · rfl

/-- Settles O26: the refusals in the order of R21, the step alone in every state, and an accepted request as what
`State.withChannel` writes, with the pass that a new PARTNER breaks. -/
theorem setChannelChecksAndSetsItsFields : Obligations.SetChannelChecksAndSetsItsFields := by
  refine ⟨fun q c s awaited listed hc => ?_, fun q c role sense passK source s awaited listed hc off hr hs hk hi legal => ?_⟩
  · have run := exec_setChannel awaited listed hc
    refine ⟨fun on beyond => run.trans ?_, fun h1 h2 h3 h4 h5 h6 => run.trans ?_,
      fun off b role present names changed conflict => run.trans ?_, fun off absent bad => run.trans ?_⟩
    · rw [setChannelOn, if_pos ⟨on, SetChannelReq.beyondStep_iff.mpr beyond⟩]
      rfl
    · have stepOnly : q.beyondStep = false := by
        simp [SetChannelReq.beyondStep, h1, h2, h3, h4, h5, h6]
      rw [setChannelOn_accepted (role := none) (sense := none) (passK := none) (source := none) (by simp [stepOnly])
        (by rw [h1]; rfl) (by rw [h2]; rfl) (by rw [h3]; rfl) (by rw [h6]; rfl) (s.roleConflict_self c)]
      rw [State.applyChannel_of_same (after := q.apply none none none none (s.chan c)) rfl
        (by rw [SetChannelReq.apply_eq, h4]; rfl) rfl (by rw [SetChannelReq.apply_eq, h5]; rfl),
      SetChannelReq.apply_eq, SetChannelReq.clamps_eq, h4, h5]
      rfl
    · have conflicts := State.roleConflict_eq_true changed conflict
      simp only [setChannelOn, off, ne_eq, not_true_eq_false, false_and, if_false, present, named, names,
        Option.map_some, Option.getD_some, conflicts, if_true]
      rfl
    · rw [setChannelOn_range off absent (bad.imp ?_ (Or.imp ?_ ?_))]
      · rfl
      · rintro ⟨b, hb, h⟩
        simp [hb, named, passKOf_eq_none h]
      · rintro ⟨b, hb, h⟩
        simp [hb, named, senseOf_eq_none h]
      · rintro ⟨b, hb, h⟩
        simp [hb, named, inSourceOf_eq_none h]
  · intro ch ch' st moved newPartner
    have run : exec (.setChannel q) s = .next ((if newPartner then (s.withChannel c ch').endPass .broken false
        else s.withChannel c ch').respond ⟨st, []⟩) := by
      rw [exec_setChannel awaited listed hc, setChannelOn_accepted (by simp [off]) hr hs hk hi legal,
        State.applyChannel_eq, accepted_eq, SetChannelReq.clamps_eq, SetChannelReq.apply_eq]
    refine ⟨s.refactored c ch', s.rerung c ch', fun c' => s.refactored_get c c' ch', fun h => ?_, fun h => ?_,
      fun unbroken => run.trans ?_, fun partner running => ?_⟩
    · exact if_pos (movesPosition_iff.mpr h)
    · exact if_neg (mt movesPosition_iff.mp h)
    · split
      · next partner =>
        rw [State.endPass_of_not_running (s := s.withChannel c ch') fun running => unbroken ⟨partner, running⟩]
        rfl
      · rfl
    · have ended := State.endPass_broken_trav (s := s.withChannel c ch') running false
      rw [if_pos partner] at run
      exact ⟨run, congrArg Traverse.ctl ended, congrArg Traverse.broken ended⟩

end Sys2Proof.Machine

namespace Sys2Proof.Machine

/-! ### What a pass end leaves (R105) -/

/-- A pass end raises PASS_END, PLAN_DONE and REJECT alone (R105): the sources 9, 10 and 12. -/
theorem State.endPass_source (s : State) (kind : EndKind) (inStop : Bool) {i : Fin 16} (h9 : i ≠ 9) (h10 : i ≠ 10)
    (h12 : i ≠ 12) : (s.endPass kind inStop).source i = s.source i := by
  have closed : ∀ u : State, (u.closeOccupancy kind).source i = u.source i := fun u => by
    unfold State.closeOccupancy
    split
    · rfl
    · rw [State.source_note_ne _ (by exact h12)]
      rfl
  have accounted : ∀ u : State, (u.accountPlan kind inStop).source i = u.source i := fun u => by
    unfold State.accountPlan
    dsimp only
    split
    · split
      · rw [State.source_note_ne _ (by exact h10)]
        rfl
      · rfl
    · rfl
  unfold State.endPass
  split
  · rw [State.source_note_ne _ (by exact h9), accounted, State.source_congr (State.passHoldStep_att _), closed,
      State.source_congr (State.dropPulse_att _ _)]
    rfl
  · rfl

/-- A raising leaves its detail with its source, unless the pass that it breaks raises that source again (R149, R150). -/
theorem State.raise_raised (s : State) (d : Detail) (h9 : d.source ≠ 9) (h10 : d.source ≠ 10) (h12 : d.source ≠ 12) :
    ∃ n, ((s.raise d).source d.source).raised = some ⟨n, d⟩ := by
  refine ⟨satInc 255 (s.source d.source).count, ?_⟩
  obtain h | ⟨h, -, -⟩ := s.raise_cases d <;> rw [h]
  · rw [State.source_note_self]
    rfl
  · rw [State.endPass_source _ _ _ h9 h10 h12, State.source_note_self]
    rfl

/-- A pass end moves at most the values applied and the factors of the compensation unit (R61, R105). -/
theorem State.endPass_anchor (s : State) (kind : EndKind) (inStop : Bool) :
    (s.endPass kind inStop).comp.anchor = s.comp.anchor := by
  have applied : ∀ (u : State) (nu : Int) (t : Option Int), (u.applyValues nu t).comp.anchor = u.comp.anchor := by
    intro u nu t
    unfold State.applyValues
    dsimp only
    split <;> rfl
  have held : ∀ u : State, u.passHoldStep.comp.anchor = u.comp.anchor := fun u => by
    unfold State.passHoldStep
    split
    · exact applied u _ _
    · rfl
  unfold State.endPass
  split
  · simp [held]
  · rfl

theorem State.raise_anchor (s : State) (d : Detail) : (s.raise d).comp.anchor = s.comp.anchor := by
  obtain h | ⟨h, -, -⟩ := s.raise_cases d <;> rw [h]
  · rfl
  · rw [State.endPass_anchor]
    rfl

/-- A raising reaches the engine by the pass it breaks alone. -/
theorem State.raise_eng (s : State) (d : Detail) :
    (s.raise d).eng = s.eng ∨ (s.raise d).eng = { s.eng with occ := none, pulse := none } := by
  obtain h | ⟨h, -, running⟩ := s.raise_cases d <;> rw [h]
  · exact .inl rfl
  · right
    rw [State.endPass_eng (s := s.note d) running, State.note_eng]

/-! ### CHANNEL_OFF (R19, R28, R44, R58, R112) -/

/-- The anchor judged: it is none where the TRACKER is out of TRACKING; nothing else changes (R58). -/
theorem State.judgeAnchor_eq (s : State) (c : Fin 4) :
    s.judgeAnchor c = { s with comp := { s.comp with
      anchor := if (s.chan c).role = .tracker ∧ (s.chan c).state ≠ .tracking then none else s.comp.anchor } } := by
  unfold State.judgeAnchor
  split <;> rfl

theorem State.advanceTracks_frame (s : State) : s.advanceTracks = { s with tracks := s.advanceTracks.tracks } := by
  obtain h | ⟨-, h⟩ := s.formRealTime_cases <;>
    simp only [State.advanceTracks, State.advanceAligned, h] <;> split <;> rfl

/-- CHANNEL_OFF touches the engine and the tracks alone, beside its channel and the probe (R64, R112, R118). -/
theorem State.offEngine_frame (s : State) (c : Fin 4) :
    s.offEngine c = { s with eng := (s.offEngine c).eng, tracks := (s.offEngine c).tracks } := by
  unfold State.offEngine
  split
  · rfl
  · split
    · rw [State.advanceTracks_frame]
    · rfl

theorem State.offEngine_measure (s : State) :
    s.offEngine 0 = { s with eng := { s.eng with latches := [], pulse := none } } := if_pos rfl

/-- A probe run on another channel, or none, is left alone (R44). -/
theorem State.abortProbe_of_ne {s : State} {c : Fin 4} (h : ∀ run, s.probe.run = some run → run.ch ≠ c) :
    s.abortProbe c = s := by
  unfold State.abortProbe
  split
  · rfl
  · next run hr => exact if_neg (h run hr)

theorem State.abortProbe_of_run {s : State} {c : Fin 4} {run : ProbeRun} (hr : s.probe.run = some run)
    (hc : run.ch = c) :
    s.abortProbe c = { s with probe := ⟨none, some run.abortedResult⟩ }.raise (.probeDone c true) := by
  simp [State.abortProbe, hr, hc]

/-- The part once CHANNEL_OFF has stopped the channel and discarded what went with it, the probe apart. -/
def State.halted (s : State) (c : Fin 4) : State :=
  ((s.setChan c (s.chan c).stopped).judgeAnchor c).offEngine c

theorem State.switchOff_eq (s : State) (c : Fin 4) : s.switchOff c = (s.halted c).abortProbe c := rfl

theorem State.halted_probe (s : State) (c : Fin 4) : (s.halted c).probe = s.probe := by
  rw [State.halted, State.offEngine_frame, State.judgeAnchor_eq]
  rfl

theorem State.halted_att (s : State) (c : Fin 4) : (s.halted c).att = s.att := by
  rw [State.halted, State.offEngine_frame, State.judgeAnchor_eq]
  rfl

theorem State.halted_anchor {s : State} {c : Fin 4} (tracker : (s.chan c).role = .tracker) :
    (s.halted c).comp.anchor = none := by
  rw [State.halted, State.offEngine_frame, State.judgeAnchor_eq]
  refine if_pos ?_
  rw [State.chan_setChan_self]
  exact ⟨tracker, by simp [Channel.stopped]⟩

theorem State.switchOff_chans (s : State) (c : Fin 4) : (s.switchOff c).chans = s.chans.set c (s.chan c).stopped :=
  ((State.quiet_offEngine _ c).trans (State.quiet_abortProbe _ c)).chans.trans (State.judgeAnchor_chans _ c)

theorem State.switchOff_anchor {s : State} {c : Fin 4} (tracker : (s.chan c).role = .tracker) :
    (s.switchOff c).comp.anchor = none := by
  rw [State.switchOff_eq, State.abortProbe]
  split
  · exact State.halted_anchor tracker
  · split
    · rw [State.raise_anchor]
      exact State.halted_anchor tracker
    · exact State.halted_anchor tracker

/-- CHANNEL_OFF of MEASURE leaves no latched edge and no open pulse (R112, R118). -/
theorem State.switchOff_engine (s : State) : (s.switchOff 0).eng.latches = [] ∧ (s.switchOff 0).eng.pulse = none := by
  have halted : (s.halted 0).eng.latches = [] ∧ (s.halted 0).eng.pulse = none := by
    rw [State.halted, State.offEngine_measure]
    exact ⟨rfl, rfl⟩
  rw [State.switchOff_eq, State.abortProbe]
  split
  · exact halted
  · split
    · obtain h | h := State.raise_eng { s.halted 0 with probe := _ } _ <;> rw [h]
      · exact halted
      · exact ⟨halted.1, rfl⟩
    · exact halted

/-- Settles O29. -/
theorem channelOffStopsTheCount : Obligations.ChannelOffStopsTheCount := by
  intro b c s awaited hc
  have run := (complete_of_awaits awaited (onChannel b channelOffAt)).trans (by rw [onChannel_of_toNat hc])
  refine ⟨fun position running => run.trans ?_, fun free => ?_⟩
  · rw [channelOffAt, if_pos (State.inPass_iff.mpr ⟨position, running⟩)]
    rfl
  rw [channelOffAt, if_neg (mt State.inPass_iff.mp free)] at run
  refine ⟨fun off => run.trans ?_, fun on => ?_⟩
  · rw [if_pos off]
    rfl
  rw [if_neg on] at run
  refine ⟨_, run, rfl, ?_, fun c' apart => ?_, State.switchOff_anchor, ?_, fun probing hr hp => ?_, fun other => ?_⟩
  · exact (State.chan_congr (s.switchOff_chans c) c).trans (s.chan_setChan_self c _)
  · exact (State.chan_congr (s.switchOff_chans c) c').trans (s.chan_setChan_ne _ apart)
  · rintro rfl
    exact s.switchOff_engine
  · have aborted := State.abortProbe_of_run (by rw [s.halted_probe c, hr]) hp
    rw [State.switchOff_eq, aborted]
    refine ⟨(State.raise_probe _ _).trans ?_, ?_⟩
    · rw [ProbeRun.abortedResult, hp]
    · exact State.raise_raised _ (.probeDone c true) (by simp [Detail.source]) (by simp [Detail.source])
        (by simp [Detail.source])
  · have kept : s.switchOff c = s.halted c :=
      State.abortProbe_of_ne fun probing hr => other probing (by rw [← s.halted_probe c]; exact hr)
    rw [kept]
    exact ⟨s.halted_probe c, s.halted_att c⟩

end Sys2Proof.Machine

namespace Sys2Proof.Machine

/-! ### What a bright sample of a TRACKING channel counts (R10 to R15) -/

section
variable (ch : Channel) (p : Point)

theorem Channel.watched_state : (ch.watched p).state = ch.state := by rw [ch.watched_eq]

theorem Channel.watched_mon : (ch.watched p).mon = ch.mon := by rw [ch.watched_eq]

theorem Channel.watched_sense : (ch.watched p).sense = ch.sense := by rw [ch.watched_eq]

theorem Channel.watched_q : (ch.watched p).q = ch.q := by rw [ch.watched_eq]

theorem Channel.watched_phiOld : (ch.watched p).phiOld = ch.phiOld := by rw [ch.watched_eq]

theorem Channel.watched_ring : (ch.watched p).ring = ch.ring := by rw [ch.watched_eq]

theorem Channel.watched_loss : (ch.watched p).loss = ch.loss := by rw [ch.watched_eq]

theorem Channel.watched_history : (ch.watched p).history = ch.history := by rw [ch.watched_eq]

end

/-- A bright sample of a TRACKING channel is unwrapped (R10, R30). -/
theorem Channel.count_bright {ch : Channel} {x : SampleIn} (tracking : ch.state = .tracking)
    (bright : ch.mon.rLow ≤ (ch.point x).r) :
    ch.count x = { (ch.watched (ch.point x)).unwrap (ch.point x).phi with
      ch := ((ch.watched (ch.point x)).unwrap (ch.point x).phi).ch.entered x.k } := by
  have step : (ch.watched (ch.point x)).countStep (ch.point x) =
      (ch.watched (ch.point x)).unwrap (ch.point x).phi := by
    simp [Channel.countStep, Channel.trackStep, Channel.watched_state, Channel.watched_mon, tracking, MonSet.dark, bright]
  rw [ch.count_eq, step]

theorem Sense.toInt_eq (sense : Sense) : sense.toInt = if sense = .plus then 1 else -1 := by
  cases sense <;> rfl

theorem pushHistory_eq (h : List HistEntry) (e : HistEntry) :
    pushHistory h e = (if h.length < 33 then h else h.drop 1) ++ [e] := by
  unfold pushHistory Config.historyDepth
  split <;> rfl

theorem outOfRange_eq (q : Int) : outOfRange q = decide (2 ^ 39 - 1 < |q|) := by
  rw [← mag_eq_abs]
  rfl

/-- The three outcomes of an unwrapped sample (R11 to R13): too fast, out of range, or counted. -/
theorem Channel.unwrap_cases (ch : Channel) (phi : Int) {delta q : Int} (hd : delta = wrapped (phi - ch.phiOld))
    (hq : q = ch.q + ch.sense.toInt * delta) :
    (ch.mon.limit < |delta| ∧ ch.unwrap phi = ch.lose .overspeed phi ch.q) ∨
    (¬ch.mon.limit < |delta| ∧ 2 ^ 39 - 1 < |q| ∧ ch.unwrap phi = ch.lose .range phi (limited q)) ∨
    (¬ch.mon.limit < |delta| ∧ ¬2 ^ 39 - 1 < |q| ∧
      ch.unwrap phi = ⟨{ ch with
        q := q, phiOld := phi, ring := pushRing ch.ring (ch.sense.toInt * delta), state := .tracking }, none, none⟩) := by
  subst hd hq
  simp only [Channel.unwrap, mag_eq_abs, outOfRange_eq, decide_eq_true_eq]
  split
  · next fast => exact .inl ⟨fast, rfl⟩
  · next slow =>
    split
    · next far => exact .inr (.inl ⟨slow, far, rfl⟩)
    · next near => exact .inr (.inr ⟨slow, near, rfl⟩)

/-- A sample's count loses its channel with a reason: the channel is as LOST leaves it, with the sample entered (R36). -/
structure Channel.LosesAt (ch : Channel) (x : SampleIn) (reason : Loss) : Prop where
  lost : (ch.count x).lost = some reason
  left : ∃ before phi q, (ch.count x).ch = (Channel.lose before reason phi q).ch.entered x.k

/-- What stages 5 and 6 of a bright TRACKING sample leave, by the size of its step and of its count (R11 to R14). -/
theorem Channel.count_bright_outcome {ch : Channel} {x : SampleIn} (tracking : ch.state = .tracking)
    (bright : ch.mon.rLow ≤ (ch.point x).r) :
    let p := ch.point x
    let sense : Int := if ch.sense = .plus then 1 else -1
    let delta := (p.phi - ch.phiOld + 2048) % 4096 - 2048
    let q' := ch.q + sense * delta
    let c' := (ch.count x).ch
    if ch.mon.limit < |delta| then
      c'.q = ch.q ∧ c'.ring = ch.ring.drop 1 ++ [0] ∧ ch.LosesAt x .overspeed
    else if 2 ^ 39 - 1 < |q'| then
      c'.q = (if q' < 0 then -(2 ^ 39 - 1) else 2 ^ 39 - 1) ∧ c'.ring = ch.ring.drop 1 ++ [0] ∧ ch.LosesAt x .range
    else c'.q = q' ∧ c'.state = .tracking ∧ c'.loss = ch.loss ∧ c'.ring = ch.ring.drop 1 ++ [sense * delta] := by
  intro p sense delta q' c'
  have counted := Channel.count_bright tracking bright
  obtain ⟨fast, e⟩ | ⟨slow, far, e⟩ | ⟨slow, near, e⟩ :=
    (ch.watched p).unwrap_cases p.phi (delta := delta) (q := q') (by rw [ch.watched_phiOld]; rfl)
      (by rw [ch.watched_q, ch.watched_sense, Sense.toInt_eq]) <;> rw [e] at counted
  · rw [if_pos (by rwa [ch.watched_mon] at fast)]
    refine ⟨?_, ?_, by rw [counted]; rfl, _, _, _, by rw [counted]⟩ <;> simp only [c', counted]
    · exact ch.watched_q p
    · exact congrArg (pushRing · 0) (ch.watched_ring p)
  · rw [if_neg (by rwa [ch.watched_mon] at slow), if_pos far]
    refine ⟨?_, ?_, by rw [counted]; rfl, _, _, _, by rw [counted]⟩ <;> simp only [c', counted]
    · rfl
    · exact congrArg (pushRing · 0) (ch.watched_ring p)
  · rw [if_neg (by rwa [ch.watched_mon] at slow), if_neg near]
    refine ⟨?_, ?_, ?_, ?_⟩ <;> simp only [c', counted]
    · rfl
    · rfl
    · exact ch.watched_loss p
    · simp only [Channel.entered, pushRing, ch.watched_ring, ch.watched_sense, Sense.toInt_eq]
      rfl

/-- A bright TRACKING sample leaves its point and its phase in the channel, and enters the count and the state that it leaves
in the history (R15). -/
theorem Channel.count_bright_entry {ch : Channel} {x : SampleIn} (tracking : ch.state = .tracking)
    (bright : ch.mon.rLow ≤ (ch.point x).r) :
    let p := ch.point x
    let c' := (ch.count x).ch
    (c'.x = p.x ∧ c'.y = p.y ∧ c'.phi = p.phi ∧ c'.r = p.r ∧ c'.beam = true ∧ c'.phiOld = p.phi) ∧
      c'.history = (if ch.history.length < 33 then ch.history else ch.history.drop 1) ++
        [⟨x.k, c'.q, c'.state.name, c'.referenced⟩] ∧
      c'.next = x.k + 1 := by
  intro p c'
  have counted := Channel.count_bright tracking bright
  have left : ((ch.watched p).unwrap p.phi).ch = { ch.watched p with
      q := c'.q, phiOld := p.phi, ring := c'.ring, state := c'.state, loss := c'.loss, referenced := c'.referenced
      settleRun := c'.settleRun } := by
    simp only [c', counted]
    obtain ⟨-, e⟩ | ⟨-, -, e⟩ | ⟨-, -, e⟩ := (ch.watched p).unwrap_cases p.phi rfl rfl <;> rw [e] <;> rfl
  have after : c' = (((ch.watched p).unwrap p.phi).ch.entered x.k) :=
    congrArg Counted.ch counted
  refine ⟨?_, ?_, ?_⟩
  · rw [after, left, ch.watched_eq]
    refine ⟨rfl, rfl, rfl, rfl, ?_, rfl⟩
    simp [Channel.entered, MonSet.dark, p, bright]
  · have pushed : c'.history = pushHistory ((ch.watched p).unwrap p.phi).ch.history
        ⟨x.k, c'.q, c'.state.name, c'.referenced⟩ := by rw [after]; rfl
    rw [pushed, left, pushHistory_eq, ch.watched_history]
  · rw [after]
    rfl

/-! ### A pass that a loss breaks (R36, R104, R105) -/

/-- The pass of a controller `tr` in direction `d` has ended BROKEN, its occupancy closed (R104, R105). -/
structure State.Broke (tr : Traverse) (d : Dir) (t : State) : Prop where
  ended : t.trav.ctl ≠ .running
  broken : t.trav.broken = min 65535 (tr.broken + 1)
  vacated : t.eng.occ = none
  raised : ∃ n, (t.source 9).raised = some ⟨n, .passEnd tr.passNo d .broken⟩

theorem State.endPass_broke {s : State} {d : Dir} (running : s.trav.ctl = .running) (dir : s.trav.dir = some d) :
    (s.endPass .broken false).Broke s.trav d where
  ended := s.endPass_not_running _ _
  broken := congrArg Traverse.broken (State.endPass_broken_trav running false)
  vacated := congrArg Engine.occ (State.endPass_eng running _ _)
  raised := by
    have pass : s.running = true := (State.running_iff s).mpr running
    rw [State.endPass, if_pos pass, dir]
    exact ⟨_, congrArg Source.raised (State.source_note_self _ (.passEnd s.trav.passNo d .broken))⟩

theorem State.Broke.congr {tr : Traverse} {d : Dir} {t u : State} (h : t.Broke tr d) (trav : u.trav = t.trav)
    (eng : u.eng = t.eng) (source : u.source 9 = t.source 9) : u.Broke tr d :=
  ⟨trav ▸ h.ended, trav ▸ h.broken, eng ▸ h.vacated, source ▸ h.raised⟩

/-- While a sample is reported the pass runs on as it was, or has been broken. -/
def State.Passes (tr : Traverse) (d : Dir) (t : State) : Prop := t.trav = tr ∨ t.Broke tr d

/-- A raising lets the pass run on, breaks it, or finds it broken (R150). -/
theorem State.Passes.raise {tr : Traverse} {d : Dir} {t : State} (h : t.Passes tr d) (running : tr.ctl = .running)
    (dir : tr.dir = some d) {e : Detail} (he : e.source ≠ 9) : (t.raise e).Passes tr d := by
  obtain rfl | h := h
  · obtain e' | ⟨e', -, -⟩ := t.raise_cases e <;> rw [e']
    · exact .inl rfl
    · exact .inr (State.endPass_broke (s := t.note e) running dir)
  · rw [State.raise_eq_note (.inr h.ended)]
    exact .inr (h.congr rfl rfl (State.source_note_ne t he.symm))

/-- A break leaves the pass broken, whether it ran on until then or not. -/
theorem State.Passes.endPass {tr : Traverse} {d : Dir} {t : State} (h : t.Passes tr d) (running : tr.ctl = .running)
    (dir : tr.dir = some d) : (t.endPass .broken false).Broke tr d := by
  obtain rfl | h := h
  · exact State.endPass_broke running dir
  · rw [State.endPass_of_not_running h.ended]
    exact h

theorem Detail.source_lost (c : Fin 4) (reason : Loss) : (Detail.lost c reason).source = ⟨c.val, by omega⟩ := rfl

theorem Detail.source_lost_ne (c : Fin 4) (reason : Loss) {i : Fin 16} (h : 4 ≤ i.val) :
    (Detail.lost c reason).source ≠ i := by
  have := c.isLt
  simp only [Detail.source_lost, ne_eq, Fin.ext_iff]
  omega

/-- A loss is raised, and breaks the pass of MEASURE or PARTNER (R36, R104). -/
theorem State.reportCount_lost (s : State) (c : Fin 4) {r : Counted} {reason : Loss} (h : r.lost = some reason) :
    s.reportCount c r =
      if r.ch.role.inPosition then (s.raise (.lost c reason)).endPass .broken false else s.raise (.lost c reason) := by
  simp [State.reportCount, h]

theorem State.reportCount_lost_raised (s : State) (c : Fin 4) {r : Counted} {reason : Loss} (h : r.lost = some reason) :
    ∃ n, ((s.reportCount c r).source ⟨c.val, by omega⟩).raised = some ⟨n, .lost c reason⟩ := by
  have ne : ∀ i : Fin 16, 4 ≤ i.val → (⟨c.val, by omega⟩ : Fin 16) ≠ i := fun i => Detail.source_lost_ne c reason
  obtain ⟨n, hn⟩ := s.raise_raised (.lost c reason) (ne 9 (by decide)) (ne 10 (by decide)) (ne 12 (by decide))
  refine ⟨n, ?_⟩
  rw [s.reportCount_lost c h]
  split
  · rw [State.endPass_source _ _ _ (ne 9 (by decide)) (ne 10 (by decide)) (ne 12 (by decide))]
    exact hn
  · exact hn

/-- A sample's report of its saturation flag and of the probe lets the pass run on or breaks it (R39, R42, R43). -/
theorem State.Passes.reported {tr : Traverse} {d : Dir} {t : State} (h : t.Passes tr d) (running : tr.ctl = .running)
    (dir : tr.dir = some d) (c : Fin 4) (sets : Bool) (p : Point) :
    ((t.reportSat c sets).probeTake c p).Passes tr d := by
  have watched : (t.reportSat c sets).Passes tr d := by
    unfold State.reportSat
    split
    · exact h.raise running dir (by simp [Detail.source])
    · exact h
  have probing : ∀ probe, { t.reportSat c sets with probe := probe }.Passes tr d := fun probe =>
    watched.imp id fun broke => broke.congr rfl rfl rfl
  unfold State.probeTake
  split
  · exact watched
  · split
    · split
      · exact (probing _).raise running dir (by simp [Detail.source])
      · exact probing _
    · exact watched

/-! ### The report of a counted sample -/

/-- The part when a channel has counted a sample, the anchor is judged, and a run of MEASURE that begins has begun. -/
def State.counting (s : State) (x : SampleIn) : State :=
  ((s.setChan x.ch ((s.chan x.ch).count x).ch).judgeAnchor x.ch).startRun x.ch x.k (decide ((s.chan x.ch).first = none))

/-- The part when a sample's count is about to be reported: the saturation flag and the probe are seen to. -/
def State.toReport (s : State) (x : SampleIn) : State :=
  ((s.counting x).reportSat x.ch ((s.chan x.ch).setsSat ((s.chan x.ch).point x))).probeTake x.ch
    ((s.chan x.ch).point x)

theorem State.countNow_eq (s : State) (x : SampleIn) :
    s.countNow x = ((s.toReport x).reportCount x.ch ((s.chan x.ch).count x)).followTracks x.ch := rfl

theorem State.followTracks_frame (s : State) (c : Fin 4) :
    s.followTracks c = { s with tracks := (s.followTracks c).tracks } := by
  unfold State.followTracks
  split
  · exact s.advanceTracks_frame
  · rfl

theorem State.counting_trav (s : State) (x : SampleIn) : (s.counting x).trav = s.trav := by
  unfold State.counting State.startRun
  rw [State.judgeAnchor_eq]
  split <;> rfl

theorem State.toReport_passes {s : State} {x : SampleIn} {d : Dir} (running : s.trav.ctl = .running)
    (dir : s.trav.dir = some d) : (s.toReport x).Passes s.trav d := by
  have begun : (s.counting x).Passes s.trav d := .inl (s.counting_trav x)
  exact begun.reported running dir x.ch _ _

/-- With nothing due, MEASURE or PARTNER counts on from a part that differs in completed latches alone (entry 8). -/
theorem State.dueFirst_trav {s : State} (none : s.tracks.alignedLimit ≤ s.tracks.alignedNext) (c : Fin 4) :
    (s.dueFirst c).trav = s.trav := by
  unfold State.dueFirst
  split
  · rw [State.takeDue, Nat.sub_eq_zero_of_le none]
    rfl
  · rfl

/-- A sample whose count loses its channel (R36, R104). -/
theorem State.countSample_loses {s : State} {x : SampleIn} {reason : Loss} (may : s.mayCount x = true)
    (h : ((s.dueFirst x.ch).chan x.ch).LosesAt x reason) : s.Loses (s.countSample x) x.ch reason := by
  obtain ⟨lost, left⟩ := h
  rw [State.countSample_of_mayCount may]
  set u := s.dueFirst x.ch
  have homing : s.Homing u := s.homing_dueFirst x.ch
  have role : ((u.chan x.ch).count x).ch.role = (s.chan x.ch).role := by
    rw [((u.chan x.ch).sameSettings_count x).1, homing.origins]
  have position : (s.chan x.ch).role = .measure ∨ (s.chan x.ch).role = .partner →
      (u.toReport x).reportCount x.ch ((u.chan x.ch).count x) =
        ((u.toReport x).raise (.lost x.ch reason)).endPass .broken false := fun h => by
    rw [State.reportCount_lost _ _ lost, role, if_pos (Role.inPosition_iff.mpr h)]
  obtain ⟨ch, phi, q, hch⟩ := left
  have chan : (u.countNow x).chan x.ch = (Channel.lose ch reason phi q).ch.entered x.k :=
    (u.countNow_chan_self x).trans hch
  have source : ∀ i, (u.countNow x).source i =
      ((u.toReport x).reportCount x.ch ((u.chan x.ch).count x)).source i := fun i => by
    rw [State.countNow_eq, State.followTracks_frame]
    rfl
  have trav : (u.countNow x).trav = ((u.toReport x).reportCount x.ch ((u.chan x.ch).count x)).trav := by
    rw [State.countNow_eq, State.followTracks_frame]
  have eng : (u.countNow x).eng = ((u.toReport x).reportCount x.ch ((u.chan x.ch).count x)).eng := by
    rw [State.countNow_eq, State.followTracks_frame]
  refine ⟨by rw [chan]; rfl, by rw [chan]; rfl, by rw [chan]; rfl, ?_, fun h => ?_, fun h d running dir none => ?_⟩
  · rw [source]
    exact (u.toReport x).reportCount_lost_raised x.ch lost
  · rw [trav, position h]
    exact State.endPass_not_running _ _ _
  · have same : u.trav = s.trav := State.dueFirst_trav none _
    rw [← same] at running dir
    have broke := ((State.toReport_passes (x := x) running dir).raise running dir
      (Detail.source_lost_ne x.ch reason (i := 9) (by decide))).endPass running dir
    rw [← position h, same] at broke
    rw [trav, eng, source]
    exact ⟨broke.broken, broke.vacated, broke.raised⟩

/-- Settles O19: the unwrapped count by its three outcomes; the aligned track, taken first, moves none of what it is formed
from. -/
theorem brightSampleUnwrapsTheCount : Obligations.BrightSampleUnwrapsTheCount := by
  intro x s may tracking ch p sense delta q' bright
  refine ⟨s.countSample x, rfl, ?_⟩
  set u := (s.dueFirst x.ch).chan x.ch
  have homed : u = { ch with origin := u.origin, referenced := u.referenced, nu0 := u.nu0 } :=
    (s.homing_dueFirst x.ch).origins x.ch
  have point : u.point x = p := by rw [homed]; rfl
  have counted : (s.countSample x).chan x.ch = (u.count x).ch := by
    rw [State.countSample_of_mayCount may, State.countNow_chan_self]
  have tracking' : u.state = .tracking := by rw [homed]; exact tracking
  have bright' : u.mon.rLow ≤ (u.point x).r := by rw [point, homed]; exact bright
  obtain ⟨entry, history, next⟩ := Channel.count_bright_entry tracking' bright'
  have outcome := Channel.count_bright_outcome tracking' bright'
  simp only [point, congrArg Channel.q homed, congrArg Channel.phiOld homed, congrArg Channel.sense homed,
    congrArg Channel.mon homed, congrArg Channel.ring homed, congrArg Channel.loss homed] at outcome
  rw [point] at entry
  simp only [congrArg Channel.history homed] at history
  simp only [counted]
  refine ⟨entry, ?_, history, next⟩
  by_cases fast : ch.mon.limit < |delta|
  · rw [if_pos fast] at outcome ⊢
    obtain ⟨q, ring, loses⟩ := outcome
    exact ⟨q, ring, State.countSample_loses may loses⟩
  rw [if_neg fast] at outcome ⊢
  by_cases far : 2 ^ 39 - 1 < |q'|
  · rw [if_pos far] at outcome ⊢
    obtain ⟨q, ring, loses⟩ := outcome
    exact ⟨q, ring, State.countSample_loses may loses⟩
  · rw [if_neg far] at outcome ⊢
    exact outcome

end Sys2Proof.Machine

namespace Sys2Proof.Machine

/-! ### Angles in turns (R5, R8) -/

/-- The angle of a point in full turns, in 0 ≤ τ < 1. -/
noncomputable def turnsOf (z : ℂ) : ℝ := Int.fract (z.arg / (2 * Real.pi))

theorem turnsOf_nonneg (z : ℂ) : 0 ≤ turnsOf z := Int.fract_nonneg _

theorem turnsOf_lt_one (z : ℂ) : turnsOf z < 1 := Int.fract_lt_one _

theorem turnsOf_of_arg_nonneg {z : ℂ} (h : 0 ≤ z.arg) : turnsOf z = z.arg / (2 * Real.pi) := by
  have := z.arg_le_pi
  have := Real.pi_pos
  exact Int.fract_eq_self.mpr ⟨by positivity, (div_lt_one (by positivity)).mpr (by linarith)⟩

theorem turnsOf_of_arg_neg {z : ℂ} (h : z.arg < 0) : turnsOf z = z.arg / (2 * Real.pi) + 1 := by
  have pi := Real.pi_pos
  have above : -1 < z.arg / (2 * Real.pi) := by
    rw [lt_div_iff₀ (by positivity)]
    linarith [z.neg_pi_lt_arg]
  have below : z.arg / (2 * Real.pi) < 0 := div_neg_of_neg_of_pos h (by positivity)
  exact Int.fract_eq_iff.mpr ⟨by linarith, by linarith, -1, by push_cast; ring⟩

/-- The first binary digit of an angle in turns: the lower half plane and the negative real axis. -/
theorem half_le_turnsOf_iff {z : ℂ} : 1 / 2 ≤ turnsOf z ↔ z.im < 0 ∨ z.im = 0 ∧ z.re < 0 := by
  have pi := Real.pi_pos
  obtain down | up := lt_or_ge z.im 0
  · have neg := Complex.arg_neg_iff.mpr down
    have above : -(1 / 2) < z.arg / (2 * Real.pi) := by
      rw [lt_div_iff₀ (by positivity)]
      linarith [z.neg_pi_lt_arg]
    exact iff_of_true (by rw [turnsOf_of_arg_neg neg]; linarith) (.inl down)
  · have half : 1 / 2 ≤ turnsOf z ↔ z.arg = Real.pi := by
      rw [turnsOf_of_arg_nonneg (Complex.arg_nonneg_iff.mpr up), le_div_iff₀ (by positivity)]
      exact ⟨fun h => le_antisymm z.arg_le_pi (by linarith), fun h => by linarith⟩
    rw [half, Complex.arg_eq_pi_iff, or_iff_right up.not_gt, and_comm]

theorem turnsOf_mul_self {z : ℂ} (hz : z ≠ 0) : turnsOf (z * z) = Int.fract (2 * turnsOf z) := by
  have pi := Real.pi_pos
  obtain ⟨k, hk⟩ := Real.Angle.angle_eq_iff_two_pi_dvd_sub.mp
    ((Complex.arg_mul_coe_angle hz hz).trans (Real.Angle.coe_add _ _).symm)
  have doubled : (z * z).arg / (2 * Real.pi) = 2 * turnsOf z + ((k + 2 * ⌊z.arg / (2 * Real.pi)⌋ : ℤ) : ℝ) := by
    rw [turnsOf, Int.fract, eq_add_of_sub_eq hk]
    push_cast
    field_simp
    ring
  rw [turnsOf, doubled, Int.fract_add_intCast]

/-! ### The digits of an angle -/

/-- The point (x, y√m) whose angle `turnDigits` takes. -/
noncomputable def rootPoint (m x y : ℤ) : ℂ := ⟨x, y * √(m : ℝ)⟩

theorem rootPoint_mul_self {m : ℤ} (hm : 0 < m) (x y : ℤ) :
    rootPoint m x y * rootPoint m x y = rootPoint m (x * x - m * (y * y)) (2 * (x * y)) := by
  have sq : √(m : ℝ) * √(m : ℝ) = m := Real.mul_self_sqrt (by exact_mod_cast hm.le)
  apply Complex.ext
  · simp only [rootPoint, Complex.mul_re]
    push_cast
    linear_combination (-(y * y : ℝ)) * sq
  · simp only [rootPoint, Complex.mul_im]
    push_cast
    ring

theorem half_le_turnsOf_rootPoint {m : ℤ} (hm : 0 < m) (x y : ℤ) :
    1 / 2 ≤ turnsOf (rootPoint m x y) ↔ y < 0 ∨ y = 0 ∧ x < 0 := by
  have root : 0 < √(m : ℝ) := Real.sqrt_pos.mpr (by exact_mod_cast hm)
  rw [half_le_turnsOf_iff]
  simp [rootPoint, mul_neg_iff, root, root.not_gt, root.ne']

/-- The digits of `turnDigits` are the first ones of the exact angle. -/
theorem turnDigits_eq {m : ℤ} (hm : 0 < m) (n : ℕ) :
    ∀ (x y : ℤ) (acc : ℕ), rootPoint m x y ≠ 0 →
      (turnDigits m n x y acc : ℤ) = acc * 2 ^ n + ⌊2 ^ n * turnsOf (rootPoint m x y)⌋ := by
  induction n with
  | zero =>
    intro x y acc _
    have whole : ⌊turnsOf (rootPoint m x y)⌋ = 0 := Int.floor_eq_zero_iff.mpr ⟨turnsOf_nonneg _, turnsOf_lt_one _⟩
    simp [turnDigits, whole]
  | succ n ih =>
    intro x y acc hz
    obtain ⟨digit, hd⟩ : ∃ digit : ℕ, (if y < 0 ∨ (y = 0 ∧ x < 0) then 1 else 0) = digit := ⟨_, rfl⟩
    have whole : ⌊2 * turnsOf (rootPoint m x y)⌋ = digit := by
      have upper := turnsOf_lt_one (rootPoint m x y)
      have lower := turnsOf_nonneg (rootPoint m x y)
      have half := half_le_turnsOf_rootPoint hm x y
      rw [Int.floor_eq_iff, ← hd]
      split
      · next h =>
        have := half.mpr h
        constructor <;> push_cast <;> linarith
      · next h =>
        have := not_le.mp (mt half.mp h)
        constructor <;> push_cast <;> linarith
    have squared : rootPoint m (x * x - m * (y * y)) (2 * (x * y)) ≠ 0 := by
      rw [← rootPoint_mul_self hm]
      exact mul_self_ne_zero.mpr hz
    have shifted : (2 : ℝ) ^ n * Int.fract (2 * turnsOf (rootPoint m x y)) =
        2 ^ (n + 1) * turnsOf (rootPoint m x y) - ((digit * 2 ^ n : ℤ) : ℝ) := by
      rw [Int.fract, whole]
      push_cast
      ring
    rw [turnDigits, hd, ih _ _ _ squared, ← rootPoint_mul_self hm, turnsOf_mul_self hz, shifted, Int.floor_sub_intCast]
    push_cast
    ring

/-! ### The phase of a PORT sample (R8) -/

/-- Rounding to nearest, a half going upward, by the whole part of the double. -/
theorem floor_add_half (v : ℝ) : ⌊v + 1 / 2⌋ = (⌊2 * v⌋ + 1) / 2 := by
  have lower := Int.floor_le (2 * v)
  have upper := Int.lt_floor_add_one (2 * v)
  have below : (((⌊2 * v⌋ + 1) / 2 * 2 : ℤ) : ℝ) ≤ (⌊2 * v⌋ + 1 : ℤ) := by exact_mod_cast (by omega)
  have above : ((⌊2 * v⌋ + 2 : ℤ) : ℝ) ≤ (((⌊2 * v⌋ + 1) / 2 * 2 + 2 : ℤ) : ℝ) := by exact_mod_cast (by omega)
  push_cast at below above
  exact Int.floor_eq_iff.mpr ⟨by linarith, by linarith⟩

theorem phaseOf_eq {x y : ℤ} (h : x ≠ 0 ∨ y ≠ 0) :
    phaseOf x y = ⌊4096 * turnsOf ⟨x, y⟩ + 1 / 2⌋ % 4096 := by
  have point : rootPoint 1 x y = ⟨x, y⟩ := by simp [rootPoint]
  have ne : rootPoint 1 x y ≠ 0 := by
    rw [point, ne_eq, Complex.ext_iff]
    simpa [or_iff_not_imp_left] using h
  have digits := turnDigits_eq one_pos 13 x y 0 ne
  rw [point] at digits
  have doubled : (2 : ℝ) * (4096 * turnsOf ⟨x, y⟩) = 2 ^ 13 * turnsOf ⟨x, y⟩ := by ring
  rw [phaseOf, floor_add_half, doubled]
  push_cast
  rw [digits]
  simp

/-- The phase is the whole number nearest to 4096 × θ / 2π, modulo 4096, for θ the argument taken in −π < θ ≤ π. -/
theorem phaseOf_eq_arg {x y : ℤ} (h : x ≠ 0 ∨ y ≠ 0) :
    phaseOf x y = ⌊4096 * Complex.arg ⟨x, y⟩ / (2 * Real.pi) + 1 / 2⌋ % 4096 := by
  have turns : 4096 * turnsOf ⟨x, y⟩ + 1 / 2 = 4096 * Complex.arg ⟨x, y⟩ / (2 * Real.pi) + 1 / 2 -
      ((4096 * ⌊Complex.arg ⟨x, y⟩ / (2 * Real.pi)⌋ : ℤ) : ℝ) := by
    rw [turnsOf, Int.fract]
    push_cast
    ring
  rw [phaseOf_eq h, turns, Int.floor_sub_intCast, Int.sub_mul_emod_self_left]

theorem phaseOf_of_arg {x y q : ℤ} (h : x ≠ 0 ∨ y ≠ 0) (arg : Complex.arg ⟨x, y⟩ = q * (Real.pi / 2)) :
    phaseOf x y = 1024 * q % 4096 := by
  have turns : 4096 * Complex.arg ⟨x, y⟩ / (2 * Real.pi) + 1 / 2 = ((1024 * q : ℤ) : ℝ) + 1 / 2 := by
    have := Real.pi_ne_zero
    rw [arg]
    push_cast
    field_simp
    ring
  rw [phaseOf_eq_arg h, turns, Int.floor_intCast_add]
  norm_num

/-- Settles O17: the digits of the angle are those of the exact one, and the last of thirteen rounds the phase to nearest. -/
theorem phaseIsTheNearestAngle : Obligations.PhaseIsTheNearestAngle := by
  refine ⟨fun x y h => ⟨_, phaseOf_eq_arg h, ?_, ?_⟩, fun a pos => ?_, fun ch x port nonzero => ?_⟩
  · linarith [Int.floor_le (4096 * Complex.arg ⟨(x : ℝ), (y : ℝ)⟩ / (2 * Real.pi) + 1 / 2)]
  · linarith [Int.lt_floor_add_one (4096 * Complex.arg ⟨(x : ℝ), (y : ℝ)⟩ / (2 * Real.pi) + 1 / 2)]
  · have real : (0 : ℝ) < a := by exact_mod_cast pos
    have east := phaseOf_of_arg (x := a) (y := 0) (q := 0) (by omega) (by
      rw [Complex.arg_eq_zero_iff.mpr ⟨real.le, by simp⟩]
      simp)
    have north := phaseOf_of_arg (x := 0) (y := a) (q := 1) (by omega) (by
      rw [Complex.arg_eq_pi_div_two_iff.mpr ⟨by simp, real⟩]
      simp)
    have west := phaseOf_of_arg (x := -a) (y := 0) (q := 2) (by omega) (by
      rw [Complex.arg_eq_pi_iff.mpr ⟨by simpa using pos, by simp⟩]
      push_cast
      ring)
    have south := phaseOf_of_arg (x := 0) (y := -a) (q := -1) (by omega) (by
      rw [Complex.arg_eq_neg_pi_div_two_iff.mpr ⟨by simp, by simpa using pos⟩]
      simp)
    exact ⟨east, north, west, south⟩
  · rw [Channel.point_port port] at nonzero ⊢
    exact if_neg (not_and_or.mpr nonzero)

end Sys2Proof.Machine

namespace Sys2Proof.Machine

/-! ### The synthetic track (R5) -/

theorem rootPoint_one_im (m c : ℤ) : (rootPoint m c 1).im = √(m : ℝ) := by simp [rootPoint]

theorem rootPoint_one_ne_zero {m : ℤ} (pos : 0 < m) (c : ℤ) : rootPoint m c 1 ≠ 0 := fun zero => by
  have root : 0 < √(m : ℝ) := Real.sqrt_pos.mpr (by exact_mod_cast pos)
  exact root.ne' ((rootPoint_one_im m c).symm.trans (congrArg Complex.im zero))

theorem arg_rootPoint {m c : ℤ} {r : ℝ} (hr : 0 < r) (hm : (m : ℝ) = r * r - c * c) (pos : 0 < m) :
    Complex.arg (rootPoint m c 1) = Real.arccos (c / r) := by
  have norm : ‖rootPoint m c 1‖ = r := by
    rw [Complex.norm_def, Complex.normSq_apply, rootPoint_one_im, Real.mul_self_sqrt (by exact_mod_cast pos.le), hm]
    exact (congrArg Real.sqrt (by simp [rootPoint])).trans (Real.sqrt_mul_self hr.le)
  rw [Complex.arg_of_im_nonneg_of_ne_zero (by rw [rootPoint_one_im]; exact Real.sqrt_nonneg _)
    (rootPoint_one_ne_zero pos c), norm]
  rfl

/-- The phase step of an angle in half a turn is at most the digits of (c, √(r² − c²)) exactly when its cosine is at least
c / r. -/
theorem le_turnDigits_iff {c f : ℤ} (lower : -32768 < c) (upper : c < 32768) (hf : 0 ≤ f) (hf' : f ≤ 2048) :
    f ≤ (turnDigits (32768 * 32768 - c * c) 12 c 1 0 : ℕ) ↔ (c : ℝ) / 32768 ≤ Real.cos (2 * Real.pi * f / 4096) := by
  have pi := Real.pi_pos
  have pos : 0 < 32768 * 32768 - c * c := by nlinarith
  have arg := arg_rootPoint (m := 32768 * 32768 - c * c) (c := c) (r := 32768) (by norm_num) (by push_cast; ring) pos
  have above : (-1 : ℝ) ≤ c / 32768 := by
    rw [le_div_iff₀ (by norm_num)]
    exact_mod_cast (by omega : -1 * 32768 ≤ c)
  have below : (c : ℝ) / 32768 ≤ 1 := by
    rw [div_le_iff₀ (by norm_num)]
    exact_mod_cast (by omega : c ≤ 1 * 32768)
  have angle : 2 * Real.pi * f / 4096 ∈ Set.Icc 0 Real.pi := by
    have hf : (0 : ℝ) ≤ f := by exact_mod_cast hf
    have hf' : (f : ℝ) ≤ 2048 := by exact_mod_cast hf'
    constructor
    · positivity
    · rw [div_le_iff₀ (by norm_num)]
      nlinarith
  have turns : turnsOf (rootPoint (32768 * 32768 - c * c) c 1) = Real.arccos (c / 32768) / (2 * Real.pi) := by
    rw [turnsOf_of_arg_nonneg (by rw [arg]; exact Real.arccos_nonneg _), arg]
  rw [turnDigits_eq pos 12 c 1 0 (rootPoint_one_ne_zero pos c), turns]
  calc f ≤ (0 : ℕ) * 2 ^ 12 + ⌊2 ^ 12 * (Real.arccos (c / 32768) / (2 * Real.pi))⌋
      ↔ (f : ℝ) ≤ 2 ^ 12 * (Real.arccos (c / 32768) / (2 * Real.pi)) := by simp [Int.le_floor]
    _ ↔ 2 * Real.pi * f / 4096 ≤ Real.arccos (c / 32768) := by
      rw [← mul_div_assoc, le_div_iff₀ (by positivity), div_le_iff₀ (by norm_num)]
      constructor <;> intro <;> linarith
    _ ↔ Real.cos (Real.arccos (c / 32768)) ≤ Real.cos (2 * Real.pi * f / 4096) :=
      (Real.strictAntiOn_cos.le_iff_ge ⟨Real.arccos_nonneg _, Real.arccos_le_pi _⟩ angle).symm
    _ ↔ (c : ℝ) / 32768 ≤ Real.cos (2 * Real.pi * f / 4096) := by rw [Real.cos_arccos above below]

/-- The test that `synCos` makes of each candidate at an angle folded into half a turn. -/
def cosTest (folded : ℤ) (i : ℕ) : Bool :=
  let c : ℤ := 2 * ((i : ℤ) - 16384) - 1
  if c ≤ -32768 then true
  else if 32768 ≤ c then false
  else decide (folded ≤ (turnDigits (32768 * 32768 - c * c) 12 c 1 0 : ℕ))

/-- An angle of phase k folded into half a turn. -/
def foldedPhase (k : ℤ) : ℤ := if k ≤ 2048 then k else 4096 - k

theorem synCos_eq_greatest (k : ℤ) : synCos k = (greatest (cosTest (foldedPhase k)) 16 0 : ℕ) - 16384 := rfl

theorem cos_foldedPhase (k : ℤ) :
    Real.cos (2 * Real.pi * foldedPhase k / 4096) = Real.cos (2 * Real.pi * k / 4096) := by
  unfold foldedPhase
  split
  · rfl
  · rw [← Real.cos_two_pi_sub]
    congr 1
    push_cast
    ring

theorem cosTest_iff {f : ℤ} (hf : 0 ≤ f) (hf' : f ≤ 2048) (i : ℕ) :
    cosTest f i = true ↔ (i : ℝ) - 16384 - 1 / 2 ≤ 16384 * Real.cos (2 * Real.pi * f / 4096) := by
  have lower := Real.neg_one_le_cos (2 * Real.pi * f / 4096)
  have upper := Real.cos_le_one (2 * Real.pi * f / 4096)
  simp only [cosTest]
  split
  · next small =>
    have : (i : ℝ) ≤ 0 := by exact_mod_cast (by omega : i ≤ 0)
    exact iff_of_true rfl (by linarith)
  · split
    · next large =>
      have : (32769 : ℝ) ≤ i := by exact_mod_cast (by omega : 32769 ≤ i)
      exact iff_of_false (by simp) (by linarith)
    · next large small =>
      rw [decide_eq_true_eq, le_turnDigits_iff (by omega) (by omega) hf hf', div_le_iff₀ (by norm_num)]
      push_cast
      constructor <;> intro <;> linarith

theorem synCos_eq {k : ℤ} (hk : 0 ≤ k) (hk' : k < 4096) :
    synCos k = ⌊16384 * Real.cos (2 * Real.pi * k / 4096) + 1 / 2⌋ := by
  have test := cosTest_iff (f := foldedPhase k) (by unfold foldedPhase; split <;> omega)
    (by unfold foldedPhase; split <;> omega)
  rw [cos_foldedPhase] at test
  have upper := Real.cos_le_one (2 * Real.pi * k / 4096)
  obtain ⟨meets, -, -, next⟩ := greatest_spec (cosTest (foldedPhase k)) 16 0 rfl
  rw [synCos_eq_greatest]
  set g := greatest (cosTest (foldedPhase k)) 16 0
  have least := (test g).mp meets
  have small : g < 32769 := by
    have : (g : ℝ) < 32769 := by linarith
    exact_mod_cast this
  have most : ¬((g + 1 : ℕ) : ℝ) - 16384 - 1 / 2 ≤ 16384 * Real.cos (2 * Real.pi * k / 4096) :=
    mt (test (g + 1)).mpr (by simp [next (by omega)])
  push_cast at most
  refine (Int.floor_eq_iff.mpr ⟨?_, ?_⟩).symm <;> push_cast <;> linarith

theorem synSin_eq (k : ℤ) : synSin k = ⌊16384 * Real.sin (2 * Real.pi * k / 4096) + 1 / 2⌋ := by
  have quarter : 2 * Real.pi * ((k - 1024) % 4096 : ℤ) / 4096 =
      2 * Real.pi * k / 4096 - Real.pi / 2 - ((k - 1024) / 4096 : ℤ) * (2 * Real.pi) := by
    rw [Int.emod_def]
    push_cast
    ring
  rw [synSin, synCos_eq (by omega) (by omega), quarter, Real.cos_sub_int_mul_two_pi, Real.cos_sub_pi_div_two]

/-- Settles O18: each coordinate is the greatest candidate that passes the exact test against the cosine. -/
theorem syntheticSampleFollowsItsTrack : Obligations.SyntheticSampleFollowsItsTrack := by
  intro ch x synth
  have point : ch.point x = synPoint ch.synAdvanced := by simp [Channel.point, synth]
  simp only [point]
  exact ⟨rfl, rfl, rfl, synCos_eq (Int.emod_nonneg _ (by decide)) (Int.emod_lt_of_pos _ (by decide)), synSin_eq _⟩

end Sys2Proof.Machine

namespace Sys2Proof.Machine

/-! ### What a field of an image holds (R177) -/

/-- The value that bytes hold, least significant first. -/
def leValue (bs : List Byte) : ℤ := bs.foldr (fun byte rest => (byte.toNat : Int) + 256 * rest) 0

/-- An image holds a value in the field of a width at an offset, a negative one in two's complement. -/
def Holds (image : List Byte) (offset width : ℕ) (v : ℤ) : Prop :=
  leValue ((image.drop offset).take width) = v % 256 ^ width

/-- A flag of a flag field's value. -/
def HasBit (p : Prop) (n : ℕ) (flags : ℤ) : Prop := p ↔ flags / 2 ^ n % 2 = 1

theorem leValue_toLE (n v : ℕ) : leValue (toLE n v) = v % 256 ^ n := by
  induction n generalizing v with
  | zero => simp [toLE, leValue]
  | succ n ih =>
    have step : leValue (toLE (n + 1) v) = (v % 256 : ℕ) + 256 * leValue (toLE n (v / 256)) := by simp [toLE, leValue]
    rw [step, ih, pow_succ']
    exact_mod_cast (Nat.mod_mul (x := v)).symm

theorem leValue_append (a b : List Byte) : leValue (a ++ b) = leValue a + 256 ^ a.length * leValue b := by
  induction a with
  | nil => simp [leValue]
  | cons byte a ih =>
    have step : ∀ bs, leValue (byte :: bs) = byte.toNat + 256 * leValue bs := fun _ => rfl
    rw [List.cons_append, step, ih, step, List.length_cons]
    ring

theorem leValue_replicate (n : ℕ) : leValue (List.replicate n 0#8) = 0 := by
  induction n with
  | zero => rfl
  | succ n ih =>
    have step : leValue (List.replicate (n + 1) 0#8) = 0 + 256 * leValue (List.replicate n 0#8) := rfl
    rw [step, ih]
    rfl

@[simp] theorem holds_append_of_le {a b : List Byte} {offset width : ℕ} {v : ℤ} (h : offset + width ≤ a.length) :
    Holds (a ++ b) offset width v ↔ Holds a offset width v := by
  rw [Holds, Holds, List.drop_append_of_le_length (by omega), List.take_append_of_le_length (by simp; omega)]

@[simp] theorem holds_append_of_ge {a b : List Byte} {offset width : ℕ} {v : ℤ} (h : a.length ≤ offset) :
    Holds (a ++ b) offset width v ↔ Holds b (offset - a.length) width v := by
  rw [Holds, Holds, List.drop_append, List.drop_of_length_le h, List.nil_append]

theorem holds_toLE (n v : ℕ) : Holds (toLE n v) 0 n v := by
  rw [Holds, List.drop_zero, List.take_of_length_le (by simp), leValue_toLE]

@[simp] theorem holds_uField {n v : ℕ} {w : ℤ} (h : v = w) : Holds (uField n v) 0 n w := h ▸ holds_toLE n v

@[simp] theorem holds_sField {n : ℕ} {v w : ℤ} (h : v = w) : Holds (sField n v) 0 n w := by
  subst h
  refine (holds_toLE n _).trans ?_
  push_cast
  rw [Int.toNat_of_nonneg (Int.emod_nonneg _ (by positivity)), Int.emod_emod]

@[simp] theorem holds_sOpt {n : ℕ} {v : Option ℤ} {w : ℤ} (h : v.getD 0 = w) : Holds (sOpt n v) 0 n w := holds_sField h

@[simp] theorem holds_zeros (n offset width : ℕ) : Holds (List.replicate n 0#8) offset width 0 := by
  rw [Holds, List.drop_replicate, List.take_replicate, leValue_replicate, Int.zero_emod]

/-- A value of one byte, in a field whose other bytes are zeros. -/
theorem holds_byte_zeros {v : ℕ} (h : v < 256) (n : ℕ) : Holds (toLE 1 v ++ List.replicate n 0#8) 0 (1 + n) v := by
  have wide : (v : ℤ) < 256 ^ (1 + n) := by
    have : (256 : ℤ) ^ 1 ≤ 256 ^ (1 + n) := pow_le_pow_right₀ (by norm_num) (by omega)
    omega
  rw [Holds, List.drop_zero, List.take_of_length_le (by simp), leValue_append, leValue_toLE, leValue_replicate,
    Int.emod_eq_of_lt (Int.natCast_nonneg _) wide, pow_one, Int.emod_eq_of_lt (Int.natCast_nonneg _) (by omega),
    mul_zero, add_zero]

/-! ### Flags (R177) -/

theorem bitsToNat_lt (bs : List Bool) : bitsToNat bs < 2 ^ bs.length := by
  induction bs with
  | nil => exact one_pos
  | cons b bs ih =>
    have := b.toNat_le
    rw [bitsToNat, List.length_cons, pow_succ]
    omega

/-- The flags of a field are the bits of its value. -/
theorem bitsToNat_div_mod (bs : List Bool) (n : ℕ) : bitsToNat bs / 2 ^ n % 2 = (bs.getD n false).toNat := by
  induction bs generalizing n with
  | nil => simp [bitsToNat]
  | cons b bs ih =>
    have := b.toNat_le
    cases n with
    | zero =>
      rw [bitsToNat, List.getD_cons_zero]
      omega
    | succ n =>
      have half : bitsToNat (b :: bs) / 2 = bitsToNat bs := by
        rw [bitsToNat]
        omega
      rw [pow_succ', ← Nat.div_div_eq_div_mul, half, ih, List.getD_cons_succ]

/-- The value of a flag field, bit 0 first. -/
def flagValue (bs : List Bool) : ℤ := bitsToNat bs

@[simp] theorem holds_flagField (n : ℕ) (bs : List Bool) : Holds (flagField n bs) 0 n (flagValue bs) := holds_toLE n _

@[simp] theorem hasBit_flagValue {p : Prop} {n : ℕ} {bs : List Bool} :
    HasBit p n (flagValue bs) ↔ (p ↔ bs.getD n false = true) := by
  have bit : flagValue bs / 2 ^ n % 2 = ((bs.getD n false).toNat : ℕ) := by
    exact_mod_cast congrArg Nat.cast (bitsToNat_div_mod bs n)
  rw [HasBit, bit]
  cases bs.getD n false <;> simp

/-- The value of a flag field, with what its bits say. -/
theorem exists_flags {image : List Byte} {offset width n : ℕ} {bs : List Bool} {P : ℤ → Prop} (len : bs.length = n)
    (h : Holds image offset width (flagValue bs)) (bits : P (flagValue bs)) :
    ∃ flags, 0 ≤ flags ∧ flags < 2 ^ n ∧ Holds image offset width flags ∧ P flags :=
  ⟨_, Int.natCast_nonneg _, by exact_mod_cast len ▸ bitsToNat_lt bs, h, bits⟩

/-! ### The block images (R182) -/

/-- The corrected length of a channel, exactly (R65, R66). -/
theorem State.corrected_eq (s : State) (c : Fin 4) (e : ℤ) :
    s.corrected c e = ⌊((e * s.comp.factors[c] : ℤ) : ℚ) / 2 ^ 32 + 1 / 2⌋ -
      ((s.chan c).datum * (s.comp.nuApplied - (s.chan c).nu0)).tdiv 1000 := by
  rw [State.corrected, lengthOf, divNearest_eq_floor _ (by norm_num)]
  push_cast
  rfl

theorem channelImage_fields (s : State) (c : Fin 4) :
    let ch := s.chan c
    let image := channelImage s c
    (Holds image 0 1 c.val ∧ Holds image 1 1 (match ch.state with
      | .off => 0
      | .settling => 1
      | .tracking => 2
      | .coasting _ => 3
      | .lost => 4) ∧ Holds image 2 1 ch.loss.code) ∧
    (∃ flags, 0 ≤ flags ∧ flags < 2 ^ 3 ∧ Holds image 3 1 flags ∧ HasBit (ch.referenced = true) 0 flags ∧
      HasBit (ch.beam = true) 1 flags ∧ HasBit (ch.sat = true) 2 flags) ∧
    Holds image 4 5 ch.q ∧ Holds image 9 6 ch.origin ∧
    Holds image 15 8 (⌊(((8 * ch.q - ch.origin) * s.comp.factors[c] : Int) : ℚ) / 2 ^ 32 + 1 / 2⌋ -
      (ch.datum * (s.comp.nuApplied - ch.nu0)).tdiv 1000) ∧
    (0 ≤ ch.r → Holds image 23 2 ch.r) ∧ (0 ≤ ch.phi → Holds image 25 2 ch.phi) ∧ Holds image 27 2 ch.ring.sum := by
  intro ch image
  simp only [ch, image, channelImage]
  refine ⟨⟨?_, ?_, ?_⟩, exists_flags (bs := [(s.chan c).referenced, (s.chan c).beam, (s.chan c).sat]) rfl ?_ ?_,
    ?_, ?_, ?_, fun r => ?_, fun phi => ?_, ?_⟩
  · simp
  · cases (s.chan c).state <;> simp [ChState.name, ChName.code]
  · simp
  · simp
  · simp
  · simp
  · simp
  · rw [← eighth, ← State.corrected_eq]
    simp
  · simp [r]
  · simp [phi]
  · simp [Channel.v16]

theorem compensationImage_fields (s : State) :
    let c := s.comp
    let image := compensationImage s
    Holds image 0 1 (match c.source with
      | .fixed => 0
      | .environment => 1
      | .tracker => 2) ∧
    (∃ flags, 0 ≤ flags ∧ flags < 2 ^ 8 ∧ Holds image 1 1 flags ∧ HasBit (c.fresh = true) 0 flags ∧
      HasBit (c.anchor ≠ none) 1 flags ∧ HasBit (c.env.tAir ≠ none) 2 flags ∧ HasBit (c.env.tScale ≠ none) 3 flags ∧
      HasBit (c.env.p ≠ none) 4 flags ∧ HasBit (c.env.e ≠ none) 5 flags ∧ HasBit (c.tApplied ≠ none) 6 flags ∧
      HasBit (s.partner ≠ none) 7 flags) ∧
    (Holds image 2 4 c.nuTarget ∧ Holds image 6 4 c.nuApplied ∧ Holds image 10 4 (c.env.tAir.getD 0) ∧
      Holds image 14 4 (c.env.tScale.getD 0) ∧ Holds image 18 4 (c.env.p.getD 0) ∧ Holds image 22 4 (c.env.e.getD 0) ∧
      Holds image 26 4 c.age ∧ Holds image 30 4 ((c.anchor.map TrackerAnchor.nu).getD 0) ∧
      Holds image 34 5 ((c.anchor.map TrackerAnchor.q).getD 0) ∧ Holds image 39 4 (c.tApplied.getD 0) ∧
      Holds image 43 8 c.factors[0]) ∧
    (s.partner = none → Holds image 51 8 0 ∧ Holds image 59 1 0) ∧
    ∀ f, s.partner = some f → Holds image 51 8 c.factors[f] ∧ Holds image 59 1 f.val := by
  intro c image
  simp only [c, image, compensationImage]
  refine ⟨?_, exists_flags (bs := [s.comp.fresh, s.comp.anchor.isSome, s.comp.env.tAir.isSome,
    s.comp.env.tScale.isSome, s.comp.env.p.isSome, s.comp.env.e.isSome, s.comp.tApplied.isSome, s.partner.isSome])
    rfl ?_ ?_, ?_, fun vacant => ?_, fun f h => ?_⟩
  · cases s.comp.source <;> simp [IndexSource.code]
  · simp
  · simp [Option.isSome_iff_ne_none]
  · simp
  · simp [vacant, -List.reduceReplicate]
  · simp [h]

theorem Traverse.dp16_eq_none (t : Traverse) : t.dp16 = none ↔ t.ring.length ≠ 17 := by
  unfold Traverse.dp16 Config.positionRingDepth
  split <;> simp [*]

theorem Traverse.dp16_getD (t : Traverse) :
    t.dp16.getD 0 = if t.ring.length = 17 then t.ring.getLastD 0 - t.ring.headD 0 else 0 := by
  unfold Traverse.dp16 Config.positionRingDepth
  split <;> simp [*]

theorem exitPending_iff (o : Option Occ) : exitPending o = true ↔ ∃ x, o = some x ∧ x.pending ≠ none := by
  cases o <;> simp [exitPending, Option.isSome_iff_ne_none]

theorem traverseImage_eq (s : State) :
    traverseImage s = uField 1 s.trav.ctl.code ++
      flagField 1 [s.trav.counted, s.trav.dir.isSome, s.trav.latest.isSome, s.trav.dp16.isSome, s.eng.home,
        s.eng.occ.isSome, s.eng.pulse.isSome, exitPending s.eng.occ] ++
      uField 2 s.trav.remaining ++ uField 4 s.trav.passNo ++ uField 1 ((s.trav.dir.map Dir.code).getD 0) ++
      uField 2 s.trav.broken ++ sOpt 6 s.trav.latest ++ sOpt 8 s.trav.dp16 ++ uField 2 s.eng.strays ++
      occBytes s.eng.occ := by
  simp only [traverseImage]
  cases s.trav.dir <;> rfl

/-- The last ten bytes of the traverse image while an occupancy is open (R131). -/
theorem occBytes_fields (o : Occ) :
    let bytes := occBytes (some o)
    Holds bytes 0 2 o.label ∧ Holds bytes 2 1 o.side.code ∧ Holds bytes 3 1 (match o.outcome with
        | .none => 0
        | .provisional _ _ => 1
        | .spoiled _ => 2) ∧
      Holds bytes 4 4 (match o.outcome with
        | .provisional dev _ => dev
        | _ => 0) ∧
      Holds bytes 8 1 (match o.outcome with
        | .spoiled r => r.code
        | _ => 0) ∧
      Holds bytes 9 1 ((o.pending.map fun side => (side.code : ℤ)).getD 0) := by
  obtain ⟨label, side, dir, outcome, pending⟩ := o
  simp only [occBytes]
  cases outcome <;> cases pending <;> simp [OccOutcome.code, -List.reduceReplicate]

theorem traverseImage_fields (s : State) :
    let t := s.trav
    let image := traverseImage s
    let full : Prop := t.ring.length = 17
    Holds image 0 1 (match t.ctl with
      | .idle => 0
      | .waiting => 1
      | .running => 2) ∧
    (∃ flags, 0 ≤ flags ∧ flags < 2 ^ 8 ∧ Holds image 1 1 flags ∧ HasBit (t.counted = true) 0 flags ∧
      HasBit (t.dir ≠ none) 1 flags ∧ HasBit (t.latest ≠ none) 2 flags ∧ HasBit full 3 flags ∧
      HasBit (s.eng.home = true) 4 flags ∧ HasBit (s.eng.occ ≠ none) 5 flags ∧ HasBit (s.eng.pulse ≠ none) 6 flags ∧
      HasBit (∃ o, s.eng.occ = some o ∧ o.pending ≠ none) 7 flags) ∧
    (Holds image 2 2 t.remaining ∧ Holds image 4 4 t.passNo ∧
      Holds image 8 1 ((t.dir.map fun d => (d.code : ℤ)).getD 0) ∧ Holds image 9 2 t.broken ∧
      Holds image 11 6 (t.latest.getD 0) ∧ (full → Holds image 17 8 (t.ring.getLastD 0 - t.ring.headD 0)) ∧
      (¬full → Holds image 17 8 0) ∧ Holds image 25 2 s.eng.strays) ∧
    (s.eng.occ = none → Holds image 27 10 0) ∧
    ∀ o, s.eng.occ = some o →
      Holds image 27 2 o.label ∧ Holds image 29 1 o.side.code ∧ Holds image 30 1 (match o.outcome with
        | .none => 0
        | .provisional _ _ => 1
        | .spoiled _ => 2) ∧
      Holds image 31 4 (match o.outcome with
        | .provisional dev _ => dev
        | _ => 0) ∧
      Holds image 35 1 (match o.outcome with
        | .spoiled r => r.code
        | _ => 0) ∧
      Holds image 36 1 ((o.pending.map fun side => (side.code : ℤ)).getD 0) := by
  intro t image full
  simp only [t, image, full, traverseImage_eq]
  refine ⟨?_, exists_flags (bs := [s.trav.counted, s.trav.dir.isSome, s.trav.latest.isSome, s.trav.dp16.isSome,
    s.eng.home, s.eng.occ.isSome, s.eng.pulse.isSome, exitPending s.eng.occ]) rfl ?_ ?_,
    ⟨?_, ?_, ?_, ?_, ?_, fun full => ?_, fun short => ?_, ?_⟩, fun vacant => ?_, fun o h => ?_⟩
  · cases s.trav.ctl <;> simp [Ctl.code]
  · simp
  · simp [Option.isSome_iff_ne_none, Traverse.dp16_eq_none, exitPending_iff]
  · simp
  · simp
  · cases s.trav.dir <;> simp
  · simp
  · simp
  · simp [Traverse.dp16_getD, full]
  · simp [Traverse.dp16_getD, short]
  · simp
  · simp [vacant, occBytes, -List.reduceReplicate]
  · obtain ⟨label, side, outcome, dev, reason, pending⟩ := occBytes_fields o
    simp [h, label, side, outcome, dev, reason, pending]

/-! ### The probe's image (R45, R182) -/

theorem probeImage_fields (p : Probe) :
    let image := probeImage p
    (p.run = none → Holds image 0 7 0) ∧
    (∀ run, p.run = some run →
      Holds image 0 1 1 ∧ Holds image 1 1 run.ch.val ∧ Holds image 2 1 run.k ∧ Holds image 3 4 run.taken) ∧
    (p.result = none → Holds image 7 22 0) ∧
    ∀ r, p.result = some r →
      (∃ flags, 0 ≤ flags ∧ flags < 2 ^ 3 ∧ Holds image 7 1 flags ∧ HasBit True 0 flags ∧ HasBit (r.ext ≠ none) 1 flags ∧
        HasBit (r.mean ≠ none) 2 flags) ∧
      Holds image 8 1 r.ch.val ∧ Holds image 9 1 r.k ∧ Holds image 10 1 (if r.aborted then 1 else 0) ∧
      Holds image 11 4 r.taken ∧ (r.ext = none → Holds image 15 12 0) ∧
      (∀ e, r.ext = some e → Holds image 15 2 e.xMin ∧ Holds image 17 2 e.xMax ∧ Holds image 19 2 e.yMin ∧
        Holds image 21 2 e.yMax ∧ (0 ≤ e.rMin → Holds image 23 2 e.rMin) ∧ (0 ≤ e.rMax → Holds image 25 2 e.rMax)) ∧
      (0 ≤ r.mean.getD 0 → Holds image 27 2 (r.mean.getD 0)) := by
  intro image
  have split : ∃ a, a.length = 7 ∧ image = a ++ probeResultBytes p.result :=
    ⟨_, by cases p.run <;> simp, rfl⟩
  obtain ⟨a, seven, appended⟩ := split
  refine ⟨fun idle => ?_, fun run h => ?_, fun fresh => ?_, fun r h => ⟨exists_flags
    (bs := [true, r.ext.isSome, r.mean.isSome]) rfl ?_ ?_, ?_, ?_, ?_, ?_, fun empty => ?_, fun e he => ?_, fun pos => ?_⟩⟩
  · simp [image, probeImage, idle, -List.reduceReplicate]
  · simp [image, probeImage, h]
  · simp [appended, seven, fresh, probeResultBytes, -List.reduceReplicate]
  · simp [appended, seven, h, probeResultBytes]
  · simp [Option.isSome_iff_ne_none]
  · simp [appended, seven, h, probeResultBytes]
  · simp [appended, seven, h, probeResultBytes]
  · cases aborted : r.aborted <;> simp [appended, seven, h, probeResultBytes, aborted]
  · simp [appended, seven, h, probeResultBytes]
  · simp [appended, seven, h, probeResultBytes, extremesBytes, empty, -List.reduceReplicate]
  · have : ∀ v : ℤ, 0 ≤ v → (v.toNat : ℤ) = v := fun v => Int.toNat_of_nonneg
    simp +contextual [appended, seven, h, probeResultBytes, extremesBytes, he]
  · simp [appended, seven, h, probeResultBytes, pos]

/-! ### The attention summary (R183) -/

theorem Source.flatMap_bytes_length (xs : List Source) : (xs.flatMap Source.bytes).length = 9 * xs.length := by
  simp [List.length_flatMap]
  omega

theorem attentionImage_eq (s : State) :
    attentionImage s = flagField 2 (s.att.sources.toList.map Source.pending) ++
      uField 1 ((s.firstSource.map Fin.val).getD 255) ++ flagField 1 [s.attn, s.mstop] ++
      s.att.sources.toList.flatMap Source.bytes := by
  unfold attentionImage
  cases s.firstSource <;> rfl

/-- A source's entry stands after those of the sources before it. -/
theorem attentionImage_entry (s : State) (i : Fin 16) :
    ∃ a b, a.length = 4 + 9 * i.val ∧ attentionImage s = a ++ ((s.source i).bytes ++ b) := by
  have size : i.val < s.att.sources.toList.length := by simp
  have split : s.att.sources.toList =
      s.att.sources.toList.take i.val ++ s.source i :: s.att.sources.toList.drop (i.val + 1) :=
    (List.take_append_drop i.val _).symm.trans (by rw [List.drop_eq_getElem_cons size]; simp [State.source])
  refine ⟨flagField 2 (s.att.sources.toList.map Source.pending) ++ uField 1 ((s.firstSource.map Fin.val).getD 255) ++
    flagField 1 [s.attn, s.mstop] ++ (s.att.sources.toList.take i.val).flatMap Source.bytes,
    (s.att.sources.toList.drop (i.val + 1)).flatMap Source.bytes, ?_, ?_⟩
  · simp only [List.length_append, flagField_length, uField_length, Source.flatMap_bytes_length, List.length_take]
    omega
  · rw [attentionImage_eq, List.append_assoc _ (List.flatMap _ _), ← List.flatMap_cons, ← List.flatMap_append, ← split]

theorem attentionImage_fields (s : State) :
    let image := attentionImage s
    (∃ pending, 0 ≤ pending ∧ pending < 2 ^ 16 ∧ Holds image 0 2 pending ∧
      ∀ i : Fin 16, HasBit ((s.source i).raised ≠ none) i.val pending) ∧
    Holds image 2 1 ((s.firstSource.map fun i => (i.val : Int)).getD 255) ∧
    (∃ lines, 0 ≤ lines ∧ lines < 2 ^ 2 ∧ Holds image 3 1 lines ∧ HasBit (s.attn = true) 0 lines ∧
      HasBit (s.mstop = true) 1 lines) ∧
    ∀ i : Fin 16,
      ((s.source i).raised = none → Holds image (4 + 9 * i.val) 9 0) ∧
      ∀ r, (s.source i).raised = some r →
        Holds image (4 + 9 * i.val) 1 r.count ∧ (image.drop (5 + 9 * i.val)).take 8 = r.detail.word := by
  intro image
  refine ⟨exists_flags (bs := s.att.sources.toList.map Source.pending) (by simp) ?_ fun i => ?_, ?_,
    exists_flags (bs := [s.attn, s.mstop]) rfl ?_ ?_, fun i => ?_⟩
  · simp [image, attentionImage_eq]
  · simp [State.source, Source.pending, Option.isSome_iff_ne_none]
  · cases h : s.firstSource <;> simp [image, attentionImage_eq, h]
  · simp [image, attentionImage_eq]
  · simp
  · obtain ⟨a, b, before, split⟩ := attentionImage_entry s i
    refine ⟨fun quiet => ?_, fun r h => ?_⟩
    · simp [image, split, before, Source.bytes, quiet, -List.reduceReplicate]
    · have entry : image = (a ++ uField 1 r.count) ++ (r.detail.word ++ b) := by simp [image, split, Source.bytes, h]
      have offset : (a ++ uField 1 r.count).length = 5 + 9 * i.val := by
        rw [List.length_append, before, uField_length]
        omega
      refine ⟨by simp [entry, before], ?_⟩
      rw [entry, List.drop_left' offset, List.take_left' r.detail.word_length]

/-! ### The detail words (R183) -/

/-- A detail word whose layout uses one byte alone. -/
theorem Detail.word_byte {d : Detail} {v : ℕ} (used : d.used = toLE 1 v) (h : v < 256) : Holds d.word 0 8 v := by
  rw [Detail.word, used, toLE_length]
  exact holds_byte_zeros h 7

theorem Detail.word_fields (d : Detail) :
    let image := d.word
    image.length = 8 ∧
    match d with
    | .lost _ reason => Holds image 0 8 reason.code
    | .bridge ch d => Holds image 0 1 ch.val ∧ Holds image 1 2 d ∧ Holds image 3 5 0
    | .saturate ch => Holds image 0 8 ch.val
    | .envStale age => Holds image 0 1 (if age = none then 1 else 0) ∧ Holds image 1 4 ((age.getD 0 : Nat) : Int) ∧
        Holds image 5 3 0
    | .envClamp tAir tScale p e => ∃ flags, 0 ≤ flags ∧ flags < 2 ^ 4 ∧ Holds image 0 8 flags ∧
        HasBit (tAir = true) 0 flags ∧ HasBit (tScale = true) 1 flags ∧ HasBit (p = true) 2 flags ∧
        HasBit (e = true) 3 flags
    | .homeDone partner => Holds image 0 8 (1 + ((partner.map fun c => (2 : Int) ^ c.val).getD 0))
    | .passEnd number dir kind => Holds image 0 4 number ∧ Holds image 4 1 dir.code ∧
        Holds image 5 1 (match kind with
          | .turn => 0
          | .span => 1
          | .request => 2
          | .broken => 3) ∧ Holds image 6 2 0
    | .planDone stopped => Holds image 0 8 (if stopped then 1 else 0)
    | .recComplete label => Holds image 0 2 label ∧ Holds image 2 6 0
    | .reject label reason => Holds image 0 2 label ∧ Holds image 2 1 reason.code ∧ Holds image 3 5 0
    | .stray pos => Holds image 0 6 (pos.getD 0) ∧ Holds image 6 2 0
    | .probeDone ch aborted => Holds image 0 1 ch.val ∧ Holds image 1 1 (if aborted then 1 else 0) ∧ Holds image 2 6 0
    | .linkFault reason code => Holds image 0 1 (match reason with
        | .overrun => 0
        | .crc => 1
        | .length => 2) ∧ Holds image 1 1 code.toNat ∧ Holds image 2 6 0 := by
  refine ⟨d.word_length, ?_⟩
  cases d with
  | lost ch reason => exact Detail.word_byte rfl (by cases reason <;> decide)
  | bridge ch d => simp [Detail.word, Detail.used, -List.reduceReplicate]
  | saturate ch => exact Detail.word_byte rfl (by omega)
  | envStale age => cases age <;> simp [Detail.word, Detail.used, -List.reduceReplicate]
  | envClamp tAir tScale p e =>
    refine exists_flags (bs := [tAir, tScale, p, e]) rfl (Detail.word_byte rfl ?_) (by simp)
    exact (bitsToNat_lt _).trans (by simp)
  | homeDone partner =>
    cases partner with
    | none => exact Detail.word_byte (v := 1) rfl (by decide)
    | some c =>
      have small : 2 ^ c.val ≤ 2 ^ 3 := Nat.pow_le_pow_right (by decide) (by omega)
      simpa using Detail.word_byte (d := .homeDone (some c)) rfl (by omega)
  | passEnd number dir kind => cases kind <;> simp [Detail.word, Detail.used, EndKind.code, -List.reduceReplicate]
  | planDone stopped => cases stopped <;> exact Detail.word_byte rfl (by decide)
  | recComplete label => simp [Detail.word, Detail.used, -List.reduceReplicate]
  | reject label reason => simp [Detail.word, Detail.used, -List.reduceReplicate]
  | stray pos => cases pos <;> simp [Detail.word, Detail.used, -List.reduceReplicate]
  | probeDone ch aborted => cases aborted <;> simp [Detail.word, Detail.used, -List.reduceReplicate]
  | linkFault reason code =>
    have byte : [code] = uField 1 code.toNat := by simp [uField, toLE]
    cases reason <;> simp [Detail.word, Detail.used, linkReasonCode, byte, -List.reduceReplicate]

/-! ### The readouts (R23, R45, R70, R88, R107, R136, R141, R154) -/

theorem onRecord_some {s : State} {l : ℕ} {r : LineRec} (h : s.table.find l = some r)
    (f : LineRec → State → State × Response) : onRecord l f s = f r s := by simp [onRecord, h]

theorem onRecord_none {s : State} {l : ℕ} (h : s.table.find l = none) (f : LineRec → State → State × Response) :
    onRecord l f s = refuse .absent s := by simp [onRecord, h]

theorem readInterval_absent {s : State} {a b : ℕ} (h : s.table.find a = none ∨ s.table.find b = none) :
    readInterval a b s = refuse .absent s := by
  unfold readInterval
  cases found : s.table.find a with
  | none => exact onRecord_none found _
  | some r =>
    rw [onRecord_some found]
    exact onRecord_none (h.resolve_left (by simp [found])) _

/-- A completion that only answers changes the response slot alone. -/
theorem complete_answers {i : Instr} {s : State} {f : State → State × Response} {r : Response} (h : f s = (s, r))
    (awaited : s.awaits i = true) :
    complete i f s = .next { s with port := { s.port with link := .holding r } } := by
  rw [complete_of_awaits awaited, h]
  rfl

/-- Settles O15: the answers by their requests; the fields by the lengths of those before them. -/
theorem readoutsChangeNothing : Obligations.ReadoutsChangeNothing := by
  refine ⟨fun s => ⟨fun b c hc => ?_, complete_answers rfl, complete_answers rfl, complete_answers rfl,
    complete_answers rfl, fun l r h => ⟨?_, ?_⟩, fun l h => ⟨?_, ?_⟩, fun a b ra rb ha hb => ?_, fun a b h => ?_⟩, ?_⟩
  · exact complete_answers (onChannel_of_toNat hc _ s)
  · exact complete_answers (onRecord_some h _)
  · exact complete_answers (onRecord_some h _)
  · exact complete_answers (onRecord_none h _)
  · exact complete_answers (onRecord_none h _)
  · exact complete_answers ((onRecord_some ha _).trans (onRecord_some hb _))
  · exact complete_answers (readInterval_absent h)
  intro holds bit dirCode sideCode rejectCode lossCode
  have hdir : dirCode = fun d => (d.code : ℤ) := by funext d; cases d <;> rfl
  have hside : sideCode = fun d => (d.code : ℤ) := by funext d; cases d <;> rfl
  have hreject : rejectCode = fun d => (d.code : ℤ) := by funext d; cases d <;> rfl
  have hloss : lossCode = fun d => (d.code : ℤ) := by funext d; cases d <;> rfl
  clear_value dirCode sideCode rejectCode lossCode
  subst hdir hside hreject hloss
  exact ⟨channelImage_fields, compensationImage_fields, traverseImage_fields, probeImage_fields, attentionImage_fields,
    Detail.word_fields⟩

end Sys2Proof.Machine

namespace Sys2Proof.Machine

/-! ### What the strobe path leaves of the monitor (R35, R36, R39, R43) -/

/-- From `s` to `t` the probe unit stands still, and so do LOSTn, BRIDGE, SATURATE and PROBE_DONE: the beam monitor's
and the probe's sources (R145). -/
structure State.SparesMonitor (s t : State) : Prop where
  probe : t.probe = s.probe
  source : ∀ i : Fin 16, i.val ≤ 5 ∨ i = 14 → t.source i = s.source i

theorem State.SparesMonitor.refl (s : State) : s.SparesMonitor s := ⟨rfl, fun _ _ => rfl⟩

theorem State.SparesMonitor.trans {s t u : State} (h : s.SparesMonitor t) (h' : t.SparesMonitor u) : s.SparesMonitor u :=
  ⟨h'.probe.trans h.probe, fun i hi => (h'.source i hi).trans (h.source i hi)⟩

theorem State.SparesMonitor.foldl {α : Type} {f : State → α → State} (h : ∀ (s : State) (a : α), s.SparesMonitor (f s a))
    (xs : List α) (s : State) : s.SparesMonitor (xs.foldl f s) := by
  induction xs generalizing s with
  | nil => exact .refl s
  | cons x xs ih => exact (h s x).trans (ih _)

theorem State.sparesMonitor_of_same {s t : State} (probe : t.probe = s.probe) (att : t.att = s.att) :
    s.SparesMonitor t := ⟨probe, fun i _ => State.source_congr att i⟩

theorem State.sparesMonitor_eng (s : State) (e : Engine) : s.SparesMonitor { s with eng := e } :=
  State.sparesMonitor_of_same rfl rfl

theorem State.sparesMonitor_table (s : State) (t : Table) : s.SparesMonitor { s with table := t } :=
  State.sparesMonitor_of_same rfl rfl

theorem State.sparesMonitor_endPass (s : State) (kind : EndKind) (inStop : Bool) :
    s.SparesMonitor (s.endPass kind inStop) where
  probe := s.endPass_probe kind inStop
  source i hi := s.endPass_source kind inStop (by omega) (by omega) (by omega)

/-- A raising leaves every other source but those of the pass that it may break (R149, R150). -/
theorem State.raise_source (s : State) (d : Detail) {i : Fin 16} (h : i ≠ d.source) (h9 : i ≠ 9) (h10 : i ≠ 10)
    (h12 : i ≠ 12) : (s.raise d).source i = s.source i := by
  obtain e | ⟨e, -, -⟩ := s.raise_cases d <;> rw [e]
  · exact State.source_note_ne s h
  · rw [State.endPass_source _ _ _ h9 h10 h12, State.source_note_ne s h]

theorem State.sparesMonitor_raise (s : State) {d : Detail} (h : 8 ≤ d.source.val ∧ d.source.val ≤ 13) :
    s.SparesMonitor (s.raise d) where
  probe := s.raise_probe d
  source i hi := s.raise_source d (by omega) (by omega) (by omega) (by omega)

/-! ### Occupancy, crossings and strobes of a pass (R119 to R127) -/

theorem State.sparesMonitor_spoil (s : State) (reason : Reject) : s.SparesMonitor (s.spoil reason) :=
  State.sparesMonitor_of_same (s.spoil_probe reason) (s.spoil_att reason)

theorem State.sparesMonitor_countReject (s : State) (label : Nat) (reason : Reject) :
    s.SparesMonitor (s.countReject label reason) :=
  (s.sparesMonitor_table _).trans (State.sparesMonitor_raise (s.tally label reason) (by simp [Detail.source]))

theorem State.sparesMonitor_commit (s : State) (label : Nat) (d : Dir) (dev : Int) :
    s.SparesMonitor (s.commit label d dev) := by
  unfold State.commit State.raiseIfCompleted
  dsimp only
  split
  · exact s.sparesMonitor_table _
  · split
    · exact (s.sparesMonitor_table _).trans (State.sparesMonitor_raise _ (by simp [Detail.source]))
    · exact s.sparesMonitor_table _

theorem State.sparesMonitor_exitOccupancy (s : State) (o : Occ) (side : Side) :
    s.SparesMonitor (s.exitOccupancy o side) := by
  refine (s.sparesMonitor_eng { s.eng with occ := none }).trans ?_
  unfold State.exitOccupancy
  dsimp only
  split
  · exact State.sparesMonitor_countReject _ _ _
  · exact State.sparesMonitor_countReject _ _ _
  · split
    · exact State.sparesMonitor_commit _ _ _ _
    · exact State.sparesMonitor_countReject _ _ _

theorem State.sparesMonitor_takePendingExit (s : State) : s.SparesMonitor s.takePendingExit := by
  unfold State.takePendingExit
  split
  · exact .refl s
  · split
    · exact .refl s
    · exact s.sparesMonitor_exitOccupancy _ _

theorem State.sparesMonitor_discardPulse (s : State) (reason : Reject) : s.SparesMonitor (s.discardPulse reason) := by
  unfold State.discardPulse
  split
  · exact (State.sparesMonitor_of_same (s.dropPulse_probe reason) (s.dropPulse_att reason)).trans
      (State.sparesMonitor_takePendingExit _)
  · exact .refl s

theorem State.sparesMonitor_takeCrossing (belongs : Bool) (s : State) (c : Crossing) :
    s.SparesMonitor (s.takeCrossing belongs c) := by
  unfold State.takeCrossing
  split
  · cases c with
    | enter label side pos =>
      show s.SparesMonitor (s.takeEntry label side)
      unfold State.takeEntry
      split
      · split
        · exact State.sparesMonitor_of_same rfl rfl
        · exact .refl s
      · exact .refl s
    | leave label side pos =>
      show s.SparesMonitor (s.takeLeave label side)
      unfold State.takeLeave
      split
      · exact .refl s
      · split
        · split
          · exact s.sparesMonitor_eng _
          · exact s.sparesMonitor_exitOccupancy _ _
        · exact .refl s
  · exact .refl s

theorem State.sparesMonitor_stray (s : State) (pos : Option Int) : s.SparesMonitor (s.stray pos) :=
  (s.sparesMonitor_eng _).trans (State.sparesMonitor_raise _ (by simp [Detail.source]))

theorem State.sparesMonitor_matchStrobe (s : State) (pos : Option Int) (valid : Bool) (reason : Reject) (inBand : Bool) :
    s.SparesMonitor (s.matchStrobe pos valid reason inBand) := by
  have occupied : ∀ o dev p, s.SparesMonitor (s.strobeInOccupied o dev p valid reason inBand) := fun o dev p => by
    unfold State.strobeInOccupied
    split
    · exact s.sparesMonitor_spoil _
    · split
      · exact s.sparesMonitor_spoil _
      · split
        · exact State.sparesMonitor_of_same rfl rfl
        · exact s.sparesMonitor_spoil _
        · exact .refl s
  unfold State.matchStrobe
  split
  · exact s.sparesMonitor_stray _
  · split
    · exact s.sparesMonitor_stray _
    · split
      · exact .refl s
      · split
        · exact occupied _ _ _
        · exact .refl s

/-! ### HOME, pulses, edges and segments (R117 to R122, R129) -/

theorem State.sparesMonitor_offerHome (s : State) (homeValid : Bool) (rawM rawP : Int) :
    s.SparesMonitor (s.offerHome homeValid rawM rawP) := by
  have origins : s.SparesMonitor (s.setOrigins rawM rawP) := by
    unfold State.setOrigins
    split <;> exact State.sparesMonitor_of_same rfl rfl
  unfold State.offerHome
  dsimp only
  split
  · have emptied : ∀ u : State, u.SparesMonitor u.emptyRing := fun _ => State.sparesMonitor_of_same rfl rfl
    exact (origins.trans (State.sparesMonitor_eng _ _)).trans
      ((emptied _).trans (State.sparesMonitor_raise _ (by simp [Detail.source])))
  · exact .refl s

theorem State.sparesMonitor_pulse (s : State) (p : Option OpenPulse) :
    s.SparesMonitor { s with eng := { s.eng with pulse := p } } := s.sparesMonitor_eng _

theorem State.sparesMonitor_openPulse (s : State) (l : Latched) : s.SparesMonitor (s.openPulse l) := by
  obtain h | h | h := s.openPulse_cases l <;> rw [h]
  · exact .refl s
  · exact s.sparesMonitor_pulse _
  · exact (s.sparesMonitor_pulse _).trans (State.sparesMonitor_discardPulse _ _)

theorem State.sparesMonitor_closePulse (belongs : Bool) (s : State) (p : OpenPulse) (l : Latched) :
    s.SparesMonitor (s.closePulse belongs p l) := by
  refine (s.sparesMonitor_pulse none).trans ?_
  unfold State.closePulse
  dsimp only
  split
  · exact (State.sparesMonitor_matchStrobe _ _ _ _ _).trans (State.sparesMonitor_takePendingExit _)
  · split
    · exact State.sparesMonitor_offerHome _ _ _ _
    · exact .refl _

theorem State.sparesMonitor_takeEdge (belongs : Bool) (s : State) (e : Edge) :
    s.SparesMonitor (s.takeEdge belongs e) := by
  unfold State.takeEdge
  dsimp only
  split
  · split
    · exact s.sparesMonitor_matchStrobe _ _ _ _
    · exact s.sparesMonitor_offerHome _ _ _
  · exact (s.sparesMonitor_discardPulse _).trans (State.sparesMonitor_openPulse _ _)
  · split
    · exact .refl s
    · exact s.sparesMonitor_closePulse belongs _ _

theorem State.sparesMonitor_takeInOrder (belongs up : Bool) (s : State) (es : List Edge) (cs : List Crossing) :
    s.SparesMonitor (s.takeInOrder belongs up es cs) := by
  induction es generalizing s cs with
  | nil => exact State.SparesMonitor.foldl (State.sparesMonitor_takeCrossing belongs) cs s
  | cons e es ih =>
    exact ((State.SparesMonitor.foldl (State.sparesMonitor_takeCrossing belongs) _ s).trans
      (State.sparesMonitor_takeEdge belongs _ e)).trans (ih _ _)

theorem State.sparesMonitor_takeSegment (belongs : Bool) (s : State) (j : Nat) (p0 p1 : Int) :
    s.SparesMonitor (s.takeSegment belongs j p0 p1) :=
  (s.sparesMonitor_eng _).trans (State.sparesMonitor_takeInOrder _ _ _ _ _)

/-! ### The aligned track and the controller's tests (R98 to R103, R113, R118) -/

theorem State.sparesMonitor_testUnlessEnded (s : State) (ctl : Ctl) (j : Nat) (p : Int) :
    s.SparesMonitor (s.testUnlessEnded ctl j p) := by
  have start : s.SparesMonitor (s.testStart j p) := by
    unfold State.testStart
    split
    · exact .refl s
    · split
      · exact State.sparesMonitor_of_same rfl rfl
      · exact .refl s
  have finish : s.SparesMonitor (s.testEnd p) := by
    unfold State.testEnd
    split
    · exact s.sparesMonitor_endPass _ _
    · split
      · exact s.sparesMonitor_endPass _ _
      · exact .refl s
  unfold State.testUnlessEnded State.testTraverse
  split
  · split
    · exact .refl s
    · exact start
    · exact finish
  · exact .refl s

theorem State.sparesMonitor_formPosition (s : State) (j : Nat) (p : Int) : s.SparesMonitor (s.formPosition j p) := by
  have noted : s.SparesMonitor ({ s with tracks := { s.tracks with alignedNext := j + 1 } }.notePosition j p) :=
    State.sparesMonitor_of_same rfl rfl
  obtain h | h := State.checkWidth_cases _ p <;> rw [State.formPosition, h]
  · exact noted
  · exact noted.trans (State.sparesMonitor_discardPulse _ _)

theorem State.sparesMonitor_checkSound (s : State) (j : Nat) : s.SparesMonitor (s.checkSound j) := by
  obtain h | h | h := s.checkSound_cases j <;> rw [h]
  · exact .refl s
  · exact s.sparesMonitor_discardPulse _
  · exact s.sparesMonitor_discardPulse _

theorem State.sparesMonitor_reachAligned (s : State) : s.SparesMonitor s.reachAligned := by
  have tested := (s.sparesMonitor_eng s.completeLatches.eng).trans
    ((State.sparesMonitor_formPosition _ s.tracks.alignedNext (s.completeLatches.trackPosition s.tracks.alignedNext)).trans
      (State.sparesMonitor_testUnlessEnded _ s.completeLatches.trav.ctl s.tracks.alignedNext
        (s.completeLatches.trackPosition s.tracks.alignedNext)))
  unfold State.reachAligned
  dsimp only
  split
  · exact tested.trans (State.sparesMonitor_checkSound _ _)
  · exact (tested.trans (State.sparesMonitor_takeSegment _ _ _ _ _)).trans (State.sparesMonitor_checkSound _ _)

theorem State.sparesMonitor_reachDue (n : Nat) (s : State) : s.SparesMonitor (s.reachDue n) := by
  induction n generalizing s with
  | zero => exact .refl s
  | succ n ih =>
    unfold State.reachDue
    split
    · exact s.sparesMonitor_reachAligned.trans (ih _)
    · exact .refl s

/-- What is due on the aligned track is no matter of the monitor (R113). -/
theorem State.sparesMonitor_dueFirst (s : State) (c : Fin 4) : s.SparesMonitor (s.dueFirst c) := by
  unfold State.dueFirst
  split
  · exact (s.sparesMonitor_eng _).trans (State.sparesMonitor_reachDue _ s.completeLatches)
  · exact .refl s

end Sys2Proof.Machine

namespace Sys2Proof.Machine

/-! ### The channel that a sample hands to its count (R4, R129) -/

/-- The counting channel after stages 1 to 4 of a sample: what is due on the aligned track is taken first (entry 8). -/
def State.handed (s : State) (x : SampleIn) : Channel :=
  ((s.dueFirst x.ch).chan x.ch).watched ((s.chan x.ch).point x)

section
variable (s : State) (x : SampleIn)

/-- Stages 5 and 6 meet the channel of before the sample, but for its point, beam flag and saturation watch, and for what a
HOME strobe may set. -/
theorem State.handed_eq : s.handed x = { s.chan x.ch with
    x := (s.handed x).x, y := (s.handed x).y, phi := (s.handed x).phi, r := (s.handed x).r
    synPhase := (s.handed x).synPhase, beam := !(s.chan x.ch).mon.dark ((s.chan x.ch).point x).r
    sat := (s.handed x).sat, overRun := (s.handed x).overRun, calmRun := (s.handed x).calmRun
    origin := (s.handed x).origin, referenced := (s.handed x).referenced, nu0 := (s.handed x).nu0 } := by
  unfold State.handed
  rw [Channel.watched_eq, (s.homing_dueFirst x.ch).origins x.ch]

theorem State.handed_state : (s.handed x).state = (s.chan x.ch).state := by rw [s.handed_eq]

theorem State.handed_mon : (s.handed x).mon = (s.chan x.ch).mon := by rw [s.handed_eq]

theorem State.handed_sense : (s.handed x).sense = (s.chan x.ch).sense := by rw [s.handed_eq]

theorem State.handed_q : (s.handed x).q = (s.chan x.ch).q := by rw [s.handed_eq]

theorem State.handed_phiOld : (s.handed x).phiOld = (s.chan x.ch).phiOld := by rw [s.handed_eq]

theorem State.handed_ring : (s.handed x).ring = (s.chan x.ch).ring := by rw [s.handed_eq]

theorem State.handed_loss : (s.handed x).loss = (s.chan x.ch).loss := by rw [s.handed_eq]

theorem State.handed_settleRun : (s.handed x).settleRun = (s.chan x.ch).settleRun := by rw [s.handed_eq]

theorem State.handed_beam : (s.handed x).beam = !(s.chan x.ch).mon.dark ((s.chan x.ch).point x).r := by rw [s.handed_eq]

/-- The point of a sample is no matter of what HOME sets. -/
theorem State.dueFirst_point : ((s.dueFirst x.ch).chan x.ch).point x = (s.chan x.ch).point x := by
  rw [(s.homing_dueFirst x.ch).origins x.ch]
  rfl

theorem State.dueFirst_count : ((s.dueFirst x.ch).chan x.ch).count x =
    { (s.handed x).countStep ((s.chan x.ch).point x) with
      ch := ((s.handed x).countStep ((s.chan x.ch).point x)).ch.entered x.k } := by
  rw [Channel.count_eq, s.dueFirst_point, State.handed]

end

/-- What a sample leaves of the part, by what stages 5 and 6 find: the channel with the sample entered (R15), a loss as R36 has
it, and BRIDGE where the dropout was long enough (R35). -/
structure State.Counts (s : State) (x : SampleIn) (t : State) (r : Counted) : Prop where
  chan : t.chan x.ch = r.ch.entered x.k
  loses : ∀ before reason phi q, r = Channel.lose before reason phi q → s.Loses t x.ch reason
  bridged : ∀ d dropout, r.lost = none → r.bridge = some (d, dropout) → (s.chan x.ch).mon.nd ≤ dropout →
    ∃ n, (t.source 4).raised = some ⟨n, .bridge x.ch d⟩

/-- The tracks raise nothing. -/
theorem State.followTracks_source (s : State) (c : Fin 4) (i : Fin 16) : (s.followTracks c).source i = s.source i := by
  rw [s.followTracks_frame]
  rfl

theorem State.counts_countSample {s : State} {x : SampleIn} (may : s.mayCount x = true) :
    s.Counts x (s.countSample x) ((s.handed x).countStep ((s.chan x.ch).point x)) where
  chan := by rw [State.countSample_of_mayCount may, State.countNow_chan_self, s.dueFirst_count]
  loses before reason phi q e := State.countSample_loses may
    ⟨by rw [s.dueFirst_count, e]; rfl, before, phi, q, by rw [s.dueFirst_count, e]⟩
  bridged d dropout lost bridge long := by
    have mon : ((s.handed x).countStep ((s.chan x.ch).point x)).ch.mon = (s.chan x.ch).mon := by
      rw [Channel.countsTo_countStep (s.handed x), s.handed_mon]
    have reported : ∀ u : State, u.reportCount x.ch (((s.dueFirst x.ch).chan x.ch).count x) = u.raise (.bridge x.ch d) :=
      fun u => by simp [State.reportCount, s.dueFirst_count, lost, bridge, Channel.entered, mon, long]
    rw [State.countSample_of_mayCount may, State.countNow_eq, State.followTracks_source, reported]
    exact State.raise_raised _ (.bridge x.ch d) (by simp [Detail.source]) (by simp [Detail.source])
      (by simp [Detail.source])

/-- A sample that loses its channel leaves it as the entry into LOST does (R36). -/
theorem State.Counts.chan_lose {s t : State} {x : SampleIn} {before : Channel} {reason : Loss} {phi q : Int}
    (h : s.Counts x t (before.lose reason phi q)) :
    (t.chan x.ch).q = q ∧ (t.chan x.ch).phiOld = phi ∧ (t.chan x.ch).ring = before.ring.drop 1 ++ [0] ∧
      (t.chan x.ch).settleRun = 0 ∧ (t.chan x.ch).beam = before.beam ∧ s.Loses t x.ch reason := by
  refine ⟨?_, ?_, ?_, ?_, ?_, h.loses _ _ _ _ rfl⟩ <;> rw [h.chan] <;> rfl

/-! ### A coast (R31 to R34) -/

/-- An extrapolated count is in its range, or loses the channel (R13, R32). -/
theorem Channel.extrapolate_cases (ch : Channel) (a : CoastAnchor) (phi : Int) :
    (2 ^ 39 - 1 < |a.count| ∧ ch.extrapolate a phi = ch.lose .range phi (limited a.count)) ∨
    (¬2 ^ 39 - 1 < |a.count| ∧ ch.extrapolate a phi = ⟨{ ch with q := a.count, state := .coasting a }, none, none⟩) := by
  simp only [Channel.extrapolate, outOfRange_eq, decide_eq_true_eq]
  split
  · next far => exact .inl ⟨far, rfl⟩
  · next near => exact .inr ⟨near, rfl⟩

/-- An extrapolated sample: within the count range the coast goes on, beyond it the channel is lost (R13, R32). -/
theorem State.Counts.extrapolated {s t : State} {x : SampleIn} {w : Channel} {a : CoastAnchor} {phi q' : Int}
    (h : s.Counts x t (w.extrapolate a phi)) (count : a.count = q') :
    let c' := t.chan x.ch
    c'.beam = w.beam ∧
      if 2 ^ 39 - 1 < |q'| then
        c'.q = (if q' < 0 then -(2 ^ 39 - 1) else 2 ^ 39 - 1) ∧ c'.phiOld = phi ∧ s.Loses t x.ch .range
      else c'.q = q' ∧ c'.state = .coasting a ∧ c'.phiOld = w.phiOld ∧ c'.ring = w.ring ∧ c'.loss = w.loss := by
  subst count
  intro c'
  obtain ⟨far, e⟩ | ⟨near, e⟩ := w.extrapolate_cases a phi <;> rw [e] at h
  · obtain ⟨q, phiOld, -, -, beam, loses⟩ := h.chan_lose
    rw [if_pos far]
    exact ⟨beam, q, phiOld, loses⟩
  · rw [if_neg near]
    simp only [c', h.chan]
    exact ⟨rfl, rfl, rfl, rfl, rfl, rfl⟩

theorem Channel.isCheck_iff {ch : Channel} {a : CoastAnchor} {p : Point} :
    ch.isCheck a p = true ↔ ch.mon.rLow + ch.mon.rHyst ≤ p.r ∧ ch.mon.nr ≤ ((a.strong + 1 : Nat) : Int) := by
  simp [Channel.isCheck, CoastAnchor.advanced, MonSet.strong]

theorem Channel.isTimeout_iff {ch : Channel} {a : CoastAnchor} {p : Point} :
    ch.isTimeout a p = true ↔ ¬ch.isCheck a p = true ∧ 10 * ch.mon.tShort < ((a.len + 1 : Nat) : Int) := by
  simp [Channel.isTimeout, CoastAnchor.advanced]

theorem State.handed_isCheck (s : State) (x : SampleIn) (a : CoastAnchor) (p : Point) :
    (s.handed x).isCheck a p = (s.chan x.ch).isCheck a p := by
  unfold Channel.isCheck
  rw [s.handed_mon]

theorem State.handed_isTimeout (s : State) (x : SampleIn) (a : CoastAnchor) (p : Point) :
    (s.handed x).isTimeout a p = (s.chan x.ch).isTimeout a p := by
  unfold Channel.isTimeout
  rw [s.handed_isCheck, s.handed_mon]

/-- The count of a COASTING channel's sample, by what the sample is to the coast (R32 to R34). -/
theorem State.handed_coast {s : State} {x : SampleIn} {a : CoastAnchor} {p : Point}
    (coasting : (s.chan x.ch).state = .coasting a) :
    (s.handed x).countStep p =
      if (s.chan x.ch).isCheck a p then (s.handed x).bridgeStep (a.advanced true) p.phi
      else if (s.chan x.ch).isTimeout a p then (s.handed x).lose .dropout p.phi (s.chan x.ch).q
      else (s.handed x).extrapolate (a.advanced ((s.chan x.ch).mon.strong p.r)) p.phi := by
  simp only [Channel.countStep, s.handed_state, coasting, Channel.coastStep, s.handed_isCheck, s.handed_isTimeout,
    s.handed_q, s.handed_mon]

theorem State.countIf_of_kind {s : State} {x : SampleIn} {kind : Channel → Point → Bool}
    (h : kind (s.chan x.ch) ((s.chan x.ch).point x) = true) : s.countIf x kind = s.countSample x := if_pos h

/-- Settles O20: the first dark sample and each later one extrapolate from the anchor; the timeout is a loss. -/
theorem coastFollowsItsAnchor : Obligations.CoastFollowsItsAnchor := by
  refine ⟨?_, ?_, ?_⟩
  · intro x s may tracking ch p q' dark
    have step : (s.handed x).countStep p =
        (s.handed x).extrapolate ⟨ch.q, ch.ring.sum, ch.phiOld, 1, 0⟩ p.phi := by
      simp [Channel.countStep, s.handed_state, tracking, Channel.trackStep, MonSet.dark, s.handed_mon, ch, p, dark,
        Channel.anchorNow, Channel.v16, s.handed_q, s.handed_ring, s.handed_phiOld]
    have counts := State.counts_countSample may
    rw [step] at counts
    obtain ⟨beam, outcome⟩ := counts.extrapolated (q' := q') (by simp [CoastAnchor.count, divDown, q'])
    rw [s.handed_phiOld, s.handed_ring, s.handed_loss] at outcome
    refine ⟨s.countSample x, rfl, ?_, outcome⟩
    rw [beam, s.handed_beam]
    simp [MonSet.dark, dark, ch, p]
  · intro x a s may coasting ch p run q' noCheck inTime
    have check : ¬ch.isCheck a p = true := by
      simp only [run] at noCheck
      rw [Channel.isCheck_iff]
      intro ⟨strong, long⟩
      exact noCheck ⟨strong, by rw [if_pos strong]; exact long⟩
    have timeout : ¬ch.isTimeout a p = true := fun h => (Channel.isTimeout_iff.mp h).2.not_ge inTime
    have advanced : a.advanced (ch.mon.strong p.r) = ⟨a.qStart, a.va, a.phiStart, a.len + 1, run⟩ := by
      simp [CoastAnchor.advanced, MonSet.strong, run]
    have counts := State.counts_countSample may
    rw [State.handed_coast coasting, if_neg check, if_neg timeout, advanced] at counts
    obtain ⟨-, outcome⟩ := counts.extrapolated (q' := q') rfl
    rw [s.handed_phiOld, s.handed_ring] at outcome
    refine ⟨s.countSample x, rfl, ?_⟩
    intro c'
    split at outcome
    · next far => rwa [if_pos far]
    · next near =>
      obtain ⟨q, state, phiOld, ring, -⟩ := outcome
      rw [if_neg near]
      exact ⟨q, state, phiOld, ring⟩
  · intro x a s may coasting ch p noCheck late
    have check : ¬ch.isCheck a p = true := mt Channel.isCheck_iff.mp noCheck
    have timeout : ch.isTimeout a p = true := Channel.isTimeout_iff.mpr ⟨check, late⟩
    have kind : isCoastTimeout ch p = true := by simp [isCoastTimeout, ch, coasting, timeout]
    have counts := State.counts_countSample may
    rw [State.handed_coast coasting, if_neg check, if_pos timeout] at counts
    obtain ⟨q, phiOld, ring, settleRun, -, loses⟩ := counts.chan_lose
    rw [s.handed_ring] at ring
    exact ⟨s.countSample x, congrArg _ (State.countIf_of_kind kind), q, phiOld, ring, settleRun, loses⟩

end Sys2Proof.Machine

namespace Sys2Proof.Machine

/-! ### The bridge check (R33, R35) -/

/-- The three outcomes of a bridge check: beyond the tolerance, out of the count range, or bridged (R13, R33). -/
theorem Channel.bridgeStep_cases (ch : Channel) (a : CoastAnchor) (phi : Int) {d q : Int}
    (hd : d = wrapped (phi - ch.predicted a)) (hq : q = a.count + ch.sense.toInt * d) :
    (ch.mon.tol < |d| ∧ ch.bridgeStep a phi = ch.lose .slip phi ch.q) ∨
    (¬ch.mon.tol < |d| ∧ 2 ^ 39 - 1 < |q| ∧ ch.bridgeStep a phi = ch.lose .range phi (limited q)) ∨
    (¬ch.mon.tol < |d| ∧ ¬2 ^ 39 - 1 < |q| ∧
      ch.bridgeStep a phi = ⟨{ ch with q := q, phiOld := phi, state := .tracking }, none, some (d, a.len - ch.mon.nr)⟩) := by
  subst hd hq
  simp only [Channel.bridgeStep, mag_eq_abs, outOfRange_eq, decide_eq_true_eq]
  split
  · next slipped => exact .inl ⟨slipped, rfl⟩
  · next held =>
    split
    · next far => exact .inr (.inl ⟨held, far, rfl⟩)
    · next near => exact .inr (.inr ⟨held, near, rfl⟩)

/-- Settles O21: the three outcomes of the check, on the channel that the sample hands to its count. -/
theorem bridgeCheckComparesPhases : Obligations.BridgeCheckComparesPhases := by
  intro x a s may coasting ch p sense j qx d q' strong long
  have check : ch.isCheck a p = true := Channel.isCheck_iff.mpr ⟨strong, long⟩
  have kind : isBridgeCheck ch p = true := by simp [isBridgeCheck, ch, coasting, check]
  have counts := State.counts_countSample may
  rw [State.handed_coast coasting, if_pos check] at counts
  have hd : d = wrapped (p.phi - (s.handed x).predicted (a.advanced true)) := by
    rw [Channel.predicted, s.handed_sense, Sense.toInt_eq]
    rfl
  have hq : q' = (a.advanced true).count + (s.handed x).sense.toInt * d := by
    rw [s.handed_sense, Sense.toInt_eq]
    rfl
  refine ⟨s.countSample x, congrArg _ (State.countIf_of_kind kind), ?_⟩
  intro c'
  have mon : (s.handed x).mon = ch.mon := s.handed_mon x
  obtain ⟨slipped, e⟩ | ⟨held, far, e⟩ | ⟨held, near, e⟩ :=
    (s.handed x).bridgeStep_cases (a.advanced true) p.phi hd hq <;> rw [e] at counts
  · obtain ⟨q, phiOld, ring, -, -, loses⟩ := counts.chan_lose
    rw [s.handed_q] at q
    rw [s.handed_ring] at ring
    rw [mon] at slipped
    rw [if_pos slipped]
    exact ⟨phiOld, q, ring, loses⟩
  · obtain ⟨q, phiOld, ring, -, -, loses⟩ := counts.chan_lose
    rw [s.handed_ring] at ring
    rw [mon] at held
    rw [if_neg held, if_pos far]
    exact ⟨phiOld, q, ring, loses⟩
  · rw [mon] at held
    rw [if_neg held, if_neg near]
    simp only [c', counts.chan]
    exact ⟨rfl, rfl, rfl, s.handed_ring x, fun dropout => counts.bridged d _ rfl rfl (by rwa [mon])⟩

/-! ### SETTLING and LOST (R29, R37) -/

theorem Channel.settles_iff {ch : Channel} {p : Point} :
    ch.settles p = true ↔ ch.mon.rLow + ch.mon.rHyst ≤ p.r ∧ ch.mon.tSettle * 10000 ≤ (ch.settleNext p : Int) := by
  simp only [Channel.settles, MonSet.strong, Bool.and_eq_true, decide_eq_true_eq]
  rfl

theorem Channel.settleNext_eq (ch : Channel) (p : Point) :
    ch.settleNext p = if ch.mon.rLow + ch.mon.rHyst ≤ p.r then ch.settleRun + 1 else 0 := by
  simp [Channel.settleNext, MonSet.strong]

theorem State.handed_settles (s : State) (x : SampleIn) (p : Point) :
    (s.handed x).settles p = (s.chan x.ch).settles p := by
  rw [Bool.eq_iff_iff, Channel.settles_iff, Channel.settles_iff, Channel.settleNext_eq, Channel.settleNext_eq,
    s.handed_mon, s.handed_settleRun]

/-- The strong sample that completes the settle is unwrapped as a TRACKING one (R29). -/
theorem Channel.settleStep_of_settles {ch : Channel} {p : Point} (h : ch.settles p = true) :
    ch.settleStep p = { ch with settleRun := 0, state := .tracking }.unwrap p.phi := if_pos h

/-- Any other sample of a SETTLING or LOST channel leaves its count (R37). -/
theorem Channel.settleStep_of_not_settles {ch : Channel} {p : Point} (h : ¬ch.settles p = true) :
    ch.settleStep p =
      ⟨{ ch with settleRun := ch.settleNext p, phiOld := p.phi, ring := pushRing ch.ring 0 }, none, none⟩ := if_neg h

theorem State.handed_settling {s : State} {x : SampleIn} {p : Point}
    (settling : (s.chan x.ch).state = .settling ∨ (s.chan x.ch).state = .lost) :
    (s.handed x).countStep p = (s.handed x).settleStep p := by
  obtain h | h := settling <;> simp only [Channel.countStep, s.handed_state, h]

/-- Settles O22: a sample that does not complete the settle leaves the count; one that does is unwrapped, within both limits. -/
theorem settlingFreezesTheCountUntilTracking : Obligations.SettlingFreezesTheCountUntilTracking := by
  refine ⟨?_, ?_⟩
  · intro x s may settling ch p run incomplete
    have settles : ¬ch.settles p = true := by
      rw [Channel.settles_iff, ch.settleNext_eq]
      exact incomplete
    have counts := State.counts_countSample may
    rw [State.handed_settling settling, Channel.settleStep_of_not_settles (by rwa [s.handed_settles])] at counts
    refine ⟨s.countSample x, rfl, ?_⟩
    simp only [counts.chan]
    refine ⟨s.handed_state x, ?_, s.handed_q x, rfl, congrArg (pushRing · 0) (s.handed_ring x)⟩
    simp only [Channel.entered, Channel.settleNext_eq, s.handed_mon, s.handed_settleRun]
    rfl
  · intro x s may settling ch p sense delta strong long slow near
    have settles : ch.settles p = true := by
      rw [Channel.settles_iff, ch.settleNext_eq, if_pos strong]
      exact ⟨strong, long⟩
    have kind : isSettleComplete ch p = true := by
      obtain h | h := settling <;> simp [isSettleComplete, ch, h, settles]
    have counts := State.counts_countSample may
    rw [State.handed_settling settling, Channel.settleStep_of_settles (by rwa [s.handed_settles])] at counts
    refine ⟨s.countSample x, congrArg _ (State.countIf_of_kind kind), ?_⟩
    have mon : (s.handed x).mon = ch.mon := s.handed_mon x
    obtain ⟨fast, -⟩ | ⟨-, far, -⟩ | ⟨-, -, e⟩ :=
      Channel.unwrap_cases { s.handed x with settleRun := 0, state := .tracking } p.phi
        (delta := delta) (q := ch.q + sense * delta) (by simp only [s.handed_phiOld]; rfl)
        (by simp only [s.handed_q, s.handed_sense, Sense.toInt_eq]; rfl)
    · exact absurd (mon ▸ fast : ch.mon.limit < |delta|) slow.not_gt
    · exact absurd far near.not_gt
    · rw [e] at counts
      simp only [counts.chan]
      exact ⟨rfl, rfl, rfl, rfl, s.handed_loss x⟩

end Sys2Proof.Machine

namespace Sys2Proof.Machine

/-! ### What a sample reports (R39, R42) -/

/-- A sample's count raises LOSTn or BRIDGE, and may break a pass: it leaves the other sources (R35, R36, R104). -/
theorem State.reportCount_source (s : State) (c : Fin 4) (r : Counted) {i : Fin 16} (h : 4 < i.val) (h9 : i ≠ 9)
    (h10 : i ≠ 10) (h12 : i ≠ 12) : (s.reportCount c r).source i = s.source i := by
  have lost : ∀ reason, (s.raise (.lost c reason)).source i = s.source i := fun reason =>
    s.raise_source _ (Detail.source_lost_ne c reason h.le).symm h9 h10 h12
  have bridge : ∀ d, (s.raise (.bridge c d)).source i = s.source i := fun d =>
    s.raise_source _ (show i ≠ 4 by omega) h9 h10 h12
  unfold State.reportCount
  split
  · dsimp only
    split
    · rw [State.endPass_source _ _ _ h9 h10 h12, lost]
    · exact lost _
  · split
    · rfl
    · split
      · exact bridge _
      · rfl

theorem State.reportCount_probe (s : State) (c : Fin 4) (r : Counted) : (s.reportCount c r).probe = s.probe := by
  unfold State.reportCount
  split
  · dsimp only
    split <;> simp
  · split
    · rfl
    · split <;> simp

/-- A channel's count, the anchor and the start of MEASURE's run leave the probe unit and the attention unit. -/
theorem State.sparesMonitor_counting (s : State) (x : SampleIn) : s.SparesMonitor (s.counting x) := by
  unfold State.counting State.startRun
  rw [State.judgeAnchor_eq]
  split <;> exact State.sparesMonitor_of_same rfl rfl

theorem State.reportSat_probe (s : State) (c : Fin 4) (sets : Bool) : (s.reportSat c sets).probe = s.probe := by
  unfold State.reportSat
  split
  · exact s.raise_probe _
  · rfl

/-- The probe unit raises PROBE_DONE alone, and may break a pass by it (R43). -/
theorem State.probeTake_source (s : State) (c : Fin 4) (p : Point) {i : Fin 16} (h14 : i ≠ 14) (h9 : i ≠ 9)
    (h10 : i ≠ 10) (h12 : i ≠ 12) : (s.probeTake c p).source i = s.source i := by
  unfold State.probeTake
  split
  · rfl
  · split
    · split
      · exact State.raise_source _ _ h14 h9 h10 h12
      · rfl
    · rfl

theorem State.setsSat_dueFirst (s : State) (x : SampleIn) (p : Point) :
    ((s.dueFirst x.ch).chan x.ch).setsSat p = (s.chan x.ch).setsSat p := by
  rw [(s.homing_dueFirst x.ch).origins x.ch]
  rfl

theorem State.clearsSat_dueFirst (s : State) (x : SampleIn) (p : Point) :
    ((s.dueFirst x.ch).chan x.ch).clearsSat p = (s.chan x.ch).clearsSat p := by
  rw [(s.homing_dueFirst x.ch).origins x.ch]
  rfl

theorem State.followTracks_probe (s : State) (c : Fin 4) : (s.followTracks c).probe = s.probe := by
  rw [s.followTracks_frame]

/-- The part when a sample has reached its saturation report: what was due is taken and the channel has counted. -/
def State.toWatch (s : State) (x : SampleIn) : State := (s.dueFirst x.ch).counting x

/-- The part when a sample has reached the probe unit: its saturation report is made. -/
def State.toProbe (s : State) (x : SampleIn) : State :=
  (s.toWatch x).reportSat x.ch ((s.chan x.ch).setsSat ((s.chan x.ch).point x))

theorem State.sparesMonitor_toWatch (s : State) (x : SampleIn) : s.SparesMonitor (s.toWatch x) :=
  (s.sparesMonitor_dueFirst x.ch).trans (State.sparesMonitor_counting _ x)

theorem State.toProbe_probe (s : State) (x : SampleIn) : (s.toProbe x).probe = s.probe :=
  (State.reportSat_probe _ _ _).trans (s.sparesMonitor_toWatch x).probe

/-- A counted sample, from its turn at the probe unit on (R4, R42). -/
theorem State.countSample_eq {s : State} {x : SampleIn} (may : s.mayCount x = true) : ∃ r, s.countSample x =
    (((s.toProbe x).probeTake x.ch ((s.chan x.ch).point x)).reportCount x.ch r).followTracks x.ch := by
  refine ⟨((s.dueFirst x.ch).chan x.ch).count x, ?_⟩
  rw [State.countSample_of_mayCount may, State.countNow_eq, State.toReport, s.dueFirst_point, s.setsSat_dueFirst]
  rfl

/-- The source of SATURATE after a sample is as the saturation report leaves it. -/
theorem State.countSample_source_saturate {s : State} {x : SampleIn} (may : s.mayCount x = true) :
    (s.countSample x).source 5 = (s.toProbe x).source 5 := by
  obtain ⟨r, e⟩ := State.countSample_eq may
  rw [e, State.followTracks_source, State.reportCount_source _ _ _ (by decide) (by decide) (by decide) (by decide),
    State.probeTake_source _ _ _ (by decide) (by decide) (by decide) (by decide)]

/-- The source of PROBE_DONE after a sample is as the sample's turn at the probe unit leaves it. -/
theorem State.countSample_source_probeDone {s : State} {x : SampleIn} (may : s.mayCount x = true) :
    (s.countSample x).source 14 = ((s.toProbe x).probeTake x.ch ((s.chan x.ch).point x)).source 14 := by
  obtain ⟨r, e⟩ := State.countSample_eq may
  rw [e, State.followTracks_source, State.reportCount_source _ _ _ (by decide) (by decide) (by decide) (by decide)]

/-- The probe unit after a sample is as the sample's turn at it leaves it (R42). -/
theorem State.countSample_probe {s : State} {x : SampleIn} (may : s.mayCount x = true) :
    (s.countSample x).probe = ((s.toProbe x).probeTake x.ch ((s.chan x.ch).point x)).probe := by
  obtain ⟨r, e⟩ := State.countSample_eq may
  rw [e, State.followTracks_probe, State.reportCount_probe]

/-! ### The saturation watch (R39, R40) -/

/-- The sample that sets the saturation flag ends both runs (R39). -/
theorem Channel.watched_of_sets {ch : Channel} {p : Point} (h : ch.setsSat p = true) :
    (ch.watched p).sat = true ∧ (ch.watched p).overRun = 0 ∧ (ch.watched p).calmRun = 0 := by
  have clear : ¬ch.sat = true := fun set => by simp [Channel.setsSat, set] at h
  have watched : ch.watched p = { (ch.took p).judged p with sat := true, overRun := 0, calmRun := 0 } :=
    (if_neg clear).trans (if_pos h)
  rw [watched]
  exact ⟨rfl, rfl, rfl⟩

/-- The sample that clears the saturation flag ends the calm run (R40). -/
theorem Channel.watched_of_clears {ch : Channel} {p : Point} (h : ch.clearsSat p = true) :
    (ch.watched p).sat = false ∧ (ch.watched p).calmRun = 0 := by
  have set : ch.sat = true := by
    by_contra clear
    simp [Channel.clearsSat, clear] at h
  have watched : ch.watched p = { (ch.took p).judged p with sat := false, calmRun := 0 } :=
    (if_pos set).trans (if_pos h)
  rw [watched]
  exact ⟨rfl, rfl⟩

/-- The saturation watch of a sample stands after stages 5 to 7 as stage 4 leaves it. -/
theorem State.countSample_watch {s : State} {x : SampleIn} (may : s.mayCount x = true) :
    let c' := (s.countSample x).chan x.ch
    c'.sat = (s.handed x).sat ∧ c'.overRun = (s.handed x).overRun ∧ c'.calmRun = (s.handed x).calmRun := by
  intro c'
  have counts := State.counts_countSample may
  simp only [c', counts.chan, Channel.entered]
  rw [Channel.countsTo_countStep (s.handed x)]
  exact ⟨rfl, rfl, rfl⟩

/-- Settles O23: the watch of stage 4, and the report that follows it. -/
theorem saturationFlagIsSetAndCleared : Obligations.SaturationFlagIsSetAndCleared := by
  intro x s may ch p
  obtain ⟨sat, overRun, calmRun⟩ := State.countSample_watch may
  have source := State.countSample_source_saturate may
  refine ⟨fun clear above long => ?_, fun set calm noOvr long => ?_⟩
  · have kind : ch.setsSat p = true := by
      have isOver : ch.mon.isOver p = true := by simpa [MonSet.isOver] using above
      simpa [Channel.setsSat, Channel.overNext, clear, isOver] using long
    obtain ⟨on, overEnds, calmEnds⟩ := Channel.watched_of_sets ((s.setsSat_dueFirst x p).trans kind)
    refine ⟨s.countSample x, congrArg _ (State.countIf_of_kind kind), sat.trans on, overRun.trans overEnds,
      calmRun.trans calmEnds, ?_⟩
    rw [source, State.toProbe, State.reportSat, if_pos kind]
    exact State.raise_raised _ (.saturate x.ch) (by simp [Detail.source]) (by simp [Detail.source])
      (by simp [Detail.source])
  · have kind : ch.clearsSat p = true := by
      have isCalm : ch.mon.calm p = true := by simp [MonSet.calm, calm, noOvr]
      simpa [Channel.clearsSat, Channel.calmNext, set, isCalm] using long
    have quiet : ¬ch.setsSat p = true := by simp [Channel.setsSat, set]
    obtain ⟨off, calmEnds⟩ := Channel.watched_of_clears ((s.clearsSat_dueFirst x p).trans kind)
    refine ⟨s.countSample x, congrArg _ (State.countIf_of_kind kind), sat.trans off, calmRun.trans calmEnds, ?_⟩
    rw [source, State.toProbe, State.reportSat, if_neg quiet]
    exact congrArg Source.raised ((s.sparesMonitor_toWatch x).source 5 (by decide))

/-! ### The probe unit (R41 to R43) -/

theorem ProbeRun.full_iff {run : ProbeRun} {p : Point} :
    (run.add p).full = true ↔ 2 ^ run.k ≤ run.taken + 1 := decide_eq_true_iff

section
variable {s : State} {run : ProbeRun} {c : Fin 4} {p : Point}

theorem State.probeTake_other (h : s.probe.run = some run) (other : run.ch ≠ c) : s.probeTake c p = s := by
  simp [State.probeTake, h, other]

theorem State.probeTake_within (h : s.probe.run = some run) (same : run.ch = c) (within : run.taken + 1 < 2 ^ run.k) :
    s.probeTake c p = { s with probe := { s.probe with run := some (run.add p) } } := by
  have unfilled : ¬(run.add p).full = true := fun full => (ProbeRun.full_iff.mp full).not_gt within
  simp [State.probeTake, h, same, unfilled]

theorem State.probeTake_last (h : s.probe.run = some run) (same : run.ch = c) (last : 2 ^ run.k ≤ run.taken + 1) :
    s.probeTake c p = { s with probe := ⟨none, some (run.add p).completed⟩ }.raise (.probeDone c false) := by
  simp [State.probeTake, h, same, ProbeRun.full_iff.mpr last]

end

/-- A request to start a run on a channel that exists (R41). -/
theorem exec_probe {b k : Byte} {c : Fin 4} {s : State} (awaited : s.awaits (.probe b k) = true) (hc : b.toNat = c.val) :
    exec (.probe b k) s = .next ((probeAt k.toNat c s).1.respond (probeAt k.toNat c s).2) := by
  show complete _ _ s = _
  rw [complete_of_awaits awaited, onChannel_of_toNat hc]

theorem clamp_toNat (k : Nat) : (clamp 8 20 k).toNat = max 8 (min 20 k) := by
  rw [clamp_eq (by decide)]
  omega

theorem outside_exponent (k : Nat) : outside 8 20 (some (k : Int)) = !decide (8 ≤ k ∧ k ≤ 20) := by
  rw [outside_eq, Bool.eq_iff_iff]
  simp

/-- Settles O24: the checks of PROBE in order; a sample's turn at the unit, within the run and at its end. -/
theorem probeRunsToItsLength : Obligations.ProbeRunsToItsLength := by
  refine ⟨?_, ?_, ?_⟩
  · intro b k c s awaited hc
    rw [exec_probe awaited hc]
    refine ⟨fun busy => ?_, fun free off => ?_, fun free on => ?_⟩
    · rw [probeAt, if_pos (Option.isSome_iff_ne_none.mpr busy)]
      rfl
    · rw [probeAt, free, if_neg (by simp), if_pos off]
      rfl
    · rw [probeAt, free, if_neg (by simp), if_neg on, clamp_toNat, outside_exponent]
      by_cases inside : 8 ≤ k.toNat ∧ k.toNat ≤ 20 <;> simp [State.respond, accepted, Response.bare, inside]
  · intro x run s may running p
    have after := State.countSample_probe may
    have probe := s.toProbe_probe x
    have running' : (s.toProbe x).probe.run = some run := by rw [probe, running]
    refine ⟨s.countSample x, rfl, fun other => ?_, fun same within => ?_⟩
    · rw [after, State.probeTake_other running' other, probe]
    · rw [after, State.probeTake_within running' same within, probe]
      rfl
  · intro x run e s may running same last ext p
    have after := State.countSample_probe may
    have source := State.countSample_source_probeDone may
    have running' : (s.toProbe x).probe.run = some run := by rw [s.toProbe_probe, running]
    have kind : s.completesProbe x = true := by simp [State.completesProbe, running, same, last]
    rw [State.probeTake_last running' same last.ge] at after source
    refine ⟨s.countSample x, congrArg _ (if_pos kind), ?_, ?_⟩
    · rw [after, State.raise_probe]
      simp [ProbeRun.completed, ProbeRun.add, Extremes.add, ext, last, divDown, same, p]
    · rw [source]
      exact State.raise_raised _ (.probeDone x.ch false) (by simp [Detail.source]) (by simp [Detail.source])
        (by simp [Detail.source])

end Sys2Proof.Machine

namespace Sys2Proof.Machine

/-! ### What the pass, the attention unit and the registration engine can do

Said once, as the elementary writes of which every operation of theirs is made, so that an invariant of all of them is shown
write by write. -/

/-- The second state is reached from the first by raisings, steps of PASS-HOLD, HOME origins, aligned samples, and writes to the
probe unit, the line table, the traverse controller and the registration engine. -/
inductive State.Works : State → State → Prop where
  | refl (s : State) : s.Works s
  | trans {s t u : State} : s.Works t → t.Works u → s.Works u
  | write (s : State) (probe : Probe) (table : Table) (trav : Traverse) (eng : Engine) :
    s.Works { s with probe := probe, table := table, trav := trav, eng := eng }
  | note (s : State) (d : Detail) : s.Works (s.note d)
  | passHoldStep (s : State) : s.Works s.passHoldStep
  | setOrigin (s : State) (c : Fin 4) (o : Int) : s.Works (s.setOrigin c o)
  | reach (s : State) (j : Nat) : s.Works { s with tracks := { s.tracks with alignedNext := j } }

theorem State.Works.foldl {α : Type} {f : State → α → State} (h : ∀ (s : State) (a : α), s.Works (f s a)) (xs : List α)
    (s : State) : s.Works (xs.foldl f s) := by
  induction xs generalizing s with
  | nil => exact .refl s
  | cons x xs ih => exact (h s x).trans (ih _)

theorem State.Works.ite {s t : State} (p : Prop) [Decidable p] (h : s.Works t) : s.Works (if p then t else s) := by
  split
  · exact h
  · exact .refl s

theorem State.works_eng (s : State) (e : Engine) : s.Works { s with eng := e } := .write s s.probe s.table s.trav e

theorem State.works_trav (s : State) (t : Traverse) : s.Works { s with trav := t } := .write s s.probe s.table t s.eng

theorem State.works_table (s : State) (t : Table) : s.Works { s with table := t } := .write s s.probe t s.trav s.eng

theorem State.works_probe (s : State) (p : Probe) : s.Works { s with probe := p } := .write s p s.table s.trav s.eng

/-! ### The pass and the attention unit (R104, R105, R121, R149, R150) -/

theorem State.works_spoil (s : State) (reason : Reject) : s.Works (s.spoil reason) := by
  unfold State.spoil
  split
  · exact .refl s
  · split
    · exact .refl s
    · exact s.works_eng _

theorem State.works_dropPulse (s : State) (reason : Reject) : s.Works (s.dropPulse reason) := by
  unfold State.dropPulse
  split
  · exact .refl s
  · exact (s.works_eng _).trans (State.works_spoil _ _)

theorem State.works_closeOccupancy (s : State) (kind : EndKind) : s.Works (s.closeOccupancy kind) := by
  unfold State.closeOccupancy
  split
  · exact .refl s
  · exact ((s.works_eng _).trans (State.works_table _ _)).trans (.note _ _)

theorem State.works_accountPlan (s : State) (kind : EndKind) (inStop : Bool) : s.Works (s.accountPlan kind inStop) := by
  unfold State.accountPlan
  dsimp only
  split
  · split
    · exact (s.works_trav _).trans (.note _ _)
    · exact s.works_trav _
  · exact s.works_trav _

theorem State.works_endPass (s : State) (kind : EndKind) (inStop : Bool) : s.Works (s.endPass kind inStop) :=
  .ite _ (((((s.works_trav _).trans (State.works_dropPulse _ _)).trans (State.works_closeOccupancy _ _)).trans
    (.passHoldStep _)).trans (State.works_accountPlan _ _ _) |>.trans (.note _ _))

theorem State.works_raise (s : State) (d : Detail) : s.Works (s.raise d) := by
  obtain h | ⟨h, -, -⟩ := s.raise_cases d <;> rw [h]
  · exact .note s d
  · exact (State.Works.note s d).trans (State.works_endPass _ _ _)

/-! ### Occupancy, crossings and strobes of a pass (R119 to R127) -/

theorem State.works_countReject (s : State) (label : Nat) (reason : Reject) : s.Works (s.countReject label reason) :=
  (s.works_table _).trans (State.works_raise _ _)

theorem State.works_raiseIfCompleted (s : State) (before after : LineRec) : s.Works (s.raiseIfCompleted before after) :=
  .ite _ (s.works_raise _)

theorem State.works_commit (s : State) (label : Nat) (d : Dir) (dev : Int) : s.Works (s.commit label d dev) := by
  refine (s.works_table (s.table.modify label (LineRec.commit d dev s.trav.passNo))).trans ?_
  unfold State.commit
  dsimp only
  split
  · exact .refl _
  · exact State.works_raiseIfCompleted _ _ _

theorem State.works_exitOccupancy (s : State) (o : Occ) (side : Side) : s.Works (s.exitOccupancy o side) := by
  refine (s.works_eng s.vacate.eng).trans ?_
  unfold State.exitOccupancy
  dsimp only
  split
  · exact State.works_countReject _ _ _
  · exact State.works_countReject _ _ _
  · split
    · exact State.works_commit _ _ _ _
    · exact State.works_countReject _ _ _

theorem State.works_takePendingExit (s : State) : s.Works s.takePendingExit := by
  unfold State.takePendingExit
  split
  · exact .refl s
  · split
    · exact .refl s
    · exact s.works_exitOccupancy _ _

theorem State.works_discardPulse (s : State) (reason : Reject) : s.Works (s.discardPulse reason) :=
  .ite _ ((s.works_dropPulse reason).trans (State.works_takePendingExit _))

theorem State.works_takeEntry (s : State) (label : Nat) (side : Side) : s.Works (s.takeEntry label side) := by
  unfold State.takeEntry
  split
  · exact .ite _ (s.works_eng _)
  · exact .refl s

theorem State.works_takeLeave (s : State) (label : Nat) (side : Side) : s.Works (s.takeLeave label side) := by
  unfold State.takeLeave
  split
  · exact .refl s
  · split
    · split
      · exact s.works_eng _
      · exact s.works_exitOccupancy _ _
    · exact .refl s

theorem State.works_takeCrossing (belongs : Bool) (s : State) (c : Crossing) : s.Works (s.takeCrossing belongs c) := by
  unfold State.takeCrossing
  split
  · cases c with
    | enter label side pos => exact s.works_takeEntry label side
    | leave label side pos => exact s.works_takeLeave label side
  · exact .refl s

theorem State.works_stray (s : State) (pos : Option Int) : s.Works (s.stray pos) :=
  (s.works_eng _).trans (State.works_raise _ _)

theorem State.works_strobeInOccupied (s : State) (o : Occ) (dev pos : Int) (valid : Bool) (reason : Reject)
    (inBand : Bool) : s.Works (s.strobeInOccupied o dev pos valid reason inBand) := by
  unfold State.strobeInOccupied
  split
  · exact s.works_spoil _
  · split
    · exact s.works_spoil _
    · split
      · exact s.works_eng _
      · exact s.works_spoil _
      · exact .refl s

theorem State.works_matchStrobe (s : State) (pos : Option Int) (valid : Bool) (reason : Reject) (inBand : Bool) :
    s.Works (s.matchStrobe pos valid reason inBand) := by
  unfold State.matchStrobe
  split
  · exact s.works_stray _
  · split
    · exact s.works_stray _
    · split
      · exact .refl s
      · exact .ite _ (s.works_strobeInOccupied _ _ _ _ _ _)

theorem State.works_lostStrobe (s : State) : s.Works s.lostStrobe := .ite _ (s.works_spoil _)

/-! ### HOME, pulses, edges and segments (R117 to R122, R129) -/

theorem State.works_setOrigins (s : State) (rawM rawP : Int) : s.Works (s.setOrigins rawM rawP) := by
  unfold State.setOrigins
  split
  · exact .setOrigin s 0 rawM
  · exact (State.Works.setOrigin s 0 rawM).trans (.setOrigin _ _ _)

theorem State.works_offerHome (s : State) (homeValid : Bool) (rawM rawP : Int) :
    s.Works (s.offerHome homeValid rawM rawP) :=
  .ite _ (((s.works_setOrigins rawM rawP).trans (State.works_eng _ _)).trans
    ((State.works_trav _ _).trans (State.works_raise _ _)))

theorem State.works_openPulse (s : State) (l : Latched) : s.Works (s.openPulse l) := by
  obtain h | h | h := s.openPulse_cases l <;> rw [h]
  · exact .refl s
  · exact s.works_eng _
  · exact (s.works_eng _).trans (State.works_discardPulse _ _)

theorem State.works_closePulse (belongs : Bool) (s : State) (p : OpenPulse) (l : Latched) :
    s.Works (s.closePulse belongs p l) := by
  refine (s.works_eng { s.eng with pulse := none }).trans ?_
  unfold State.closePulse
  dsimp only
  split
  · exact (State.works_matchStrobe _ _ _ _ _).trans (State.works_takePendingExit _)
  · exact .ite _ (State.works_offerHome _ _ _ _)

theorem State.works_takeEdge (belongs : Bool) (s : State) (e : Edge) : s.Works (s.takeEdge belongs e) := by
  unfold State.takeEdge
  dsimp only
  split
  · split
    · exact s.works_matchStrobe _ _ _ _
    · exact s.works_offerHome _ _ _
  · exact (s.works_discardPulse _).trans (State.works_openPulse _ _)
  · split
    · exact .refl s
    · exact s.works_closePulse belongs _ _

theorem State.works_takeInOrder (belongs up : Bool) (s : State) (es : List Edge) (cs : List Crossing) :
    s.Works (s.takeInOrder belongs up es cs) := by
  induction es generalizing s cs with
  | nil => exact .foldl (State.works_takeCrossing belongs) cs s
  | cons e es ih =>
    exact ((State.Works.foldl (State.works_takeCrossing belongs) _ s).trans (State.works_takeEdge belongs _ e)).trans
      (ih _ _)

theorem State.works_takeSegment (belongs : Bool) (s : State) (j : Nat) (p0 p1 : Int) :
    s.Works (s.takeSegment belongs j p0 p1) :=
  (s.works_eng _).trans (State.works_takeInOrder _ _ _ _ _)

/-! ### The aligned track and the controller's tests (R98 to R103, R113, R118) -/

theorem State.works_testStart (s : State) (j : Nat) (p : Int) : s.Works (s.testStart j p) := by
  unfold State.testStart
  split
  · exact .refl s
  · exact .ite _ (.write s s.probe s.table _ _)

theorem State.works_testEnd (s : State) (p : Int) : s.Works (s.testEnd p) := by
  unfold State.testEnd
  split
  · exact s.works_endPass _ _
  · exact .ite _ (s.works_endPass _ _)

theorem State.works_testUnlessEnded (s : State) (ctl : Ctl) (j : Nat) (p : Int) :
    s.Works (s.testUnlessEnded ctl j p) := by
  refine .ite _ ?_
  unfold State.testTraverse
  split
  · exact .refl s
  · exact s.works_testStart j p
  · exact s.works_testEnd p

theorem State.works_formPosition (s : State) (j : Nat) (p : Int) : s.Works (s.formPosition j p) := by
  have noted : s.Works ({ s with tracks := { s.tracks with alignedNext := j + 1 } }.notePosition j p) :=
    (State.Works.reach s (j + 1)).trans (State.works_trav _ _)
  obtain h | h := State.checkWidth_cases _ p <;> rw [State.formPosition, h]
  · exact noted
  · exact noted.trans (State.works_discardPulse _ _)

theorem State.works_checkSound (s : State) (j : Nat) : s.Works (s.checkSound j) := by
  obtain h | h | h := s.checkSound_cases j <;> rw [h]
  · exact .refl s
  · exact s.works_discardPulse _
  · exact s.works_discardPulse _

theorem State.works_reachAligned (s : State) : s.Works s.reachAligned := by
  have tested := (s.works_eng s.completeLatches.eng).trans
    ((State.works_formPosition _ s.tracks.alignedNext (s.completeLatches.trackPosition s.tracks.alignedNext)).trans
      (State.works_testUnlessEnded _ s.completeLatches.trav.ctl s.tracks.alignedNext
        (s.completeLatches.trackPosition s.tracks.alignedNext)))
  unfold State.reachAligned
  dsimp only
  split
  · exact tested.trans (State.works_checkSound _ _)
  · exact (tested.trans (State.works_takeSegment _ _ _ _ _)).trans (State.works_checkSound _ _)

theorem State.works_reachDue (n : Nat) (s : State) : s.Works (s.reachDue n) := by
  induction n generalizing s with
  | zero => exact .refl s
  | succ n ih => exact .ite _ (s.works_reachAligned.trans (ih _))

/-- What is due on the aligned track is taken before a further sample (R113). -/
theorem State.works_dueFirst (s : State) (c : Fin 4) : s.Works (s.dueFirst c) :=
  .ite _ ((s.works_eng _).trans (State.works_reachDue _ s.completeLatches))

/-! ### A sample beyond its channel (R35, R36, R39, R42, R112) -/

theorem State.works_startRun (s : State) (c : Fin 4) (k : Nat) (wasFirst : Bool) : s.Works (s.startRun c k wasFirst) :=
  .ite _ ((State.Works.reach s k).trans (State.works_eng _ _))

theorem State.works_reportSat (s : State) (c : Fin 4) (sets : Bool) : s.Works (s.reportSat c sets) :=
  .ite _ (s.works_raise _)

theorem State.works_probeTake (s : State) (c : Fin 4) (p : Point) : s.Works (s.probeTake c p) := by
  unfold State.probeTake
  split
  · exact .refl s
  · split
    · split
      · exact (s.works_probe _).trans (State.works_raise _ _)
      · exact s.works_probe _
    · exact .refl s

theorem State.works_reportCount (s : State) (c : Fin 4) (r : Counted) : s.Works (s.reportCount c r) := by
  unfold State.reportCount
  split
  · dsimp only
    split
    · exact (s.works_raise _).trans (State.works_endPass _ _ _)
    · exact s.works_raise _
  · split
    · exact .refl s
    · exact .ite _ (s.works_raise _)

/-- What a counted sample reports, the tracks apart. -/
theorem State.works_reported (s : State) (x : SampleIn) :
    (s.counting x).Works ((s.toReport x).reportCount x.ch ((s.chan x.ch).count x)) :=
  ((State.works_reportSat _ _ _).trans (State.works_probeTake _ _ _)).trans (State.works_reportCount _ _ _)

theorem State.works_abortProbe (s : State) (c : Fin 4) : s.Works (s.abortProbe c) := by
  unfold State.abortProbe
  split
  · exact .refl s
  · exact .ite _ ((s.works_probe _).trans (State.works_raise _ _))

/-! ### The strobe path (R110 to R115) -/

theorem State.works_acceptEdge (s : State) (rising : Bool) (t : Nat) : s.Works (s.acceptEdge rising t) := by
  unfold State.acceptEdge
  split
  · exact .refl s
  · dsimp only
    split
    · exact .refl s
    · split
      · exact s.works_lostStrobe
      · split
        · exact s.works_lostStrobe
        · exact s.works_eng _

theorem State.works_confirmLevel (s : State) (level : Bool) (t : Nat) : s.Works (s.confirmLevel level t) := by
  have noted := s.works_eng { s.eng with level := some level, levelClock := some t }
  unfold State.confirmLevel
  dsimp only
  split
  · exact noted
  · exact noted.trans (State.works_acceptEdge _ _ _)

/-! ### Requests that work the pass, the table, the engine and the origins alone (R17, R80 to R97, R109, R128) -/

theorem onRecord_works {l : Nat} {f : LineRec → State → State × Response} {s : State} (h : ∀ r, s.Works (f r s).1) :
    s.Works (onRecord l f s).1 := by
  unfold onRecord
  split
  · exact .refl s
  · exact h _

theorem onChannel_works {b : Byte} {f : Fin 4 → State → State × Response} {s : State} (h : ∀ c, s.Works (f c s).1) :
    s.Works (onChannel b f s).1 := by
  unfold onChannel
  split
  · exact .refl s
  · exact h _

theorem State.works_startPlan (s : State) (count : Nat) : s.Works (startPlan count s).1 := by
  unfold startPlan
  split
  · exact .refl s
  · exact s.works_trav _

theorem State.works_stopPlan (s : State) : s.Works (stopPlan s).1 := by
  unfold stopPlan
  split
  · exact .refl s
  · exact ((s.works_endPass _ _).trans (State.works_trav _ _)).trans (State.works_raise _ _)

theorem State.works_endPassRequest (s : State) : s.Works (endPassRequest s).1 := by
  unfold endPassRequest
  split
  · exact s.works_endPass _ _
  · exact .refl s

theorem State.works_home (s : State) : s.Works (home s).1 := by
  unfold home
  split
  · exact .refl s
  · exact s.works_eng _

theorem State.works_probeAt (s : State) (k : Nat) (c : Fin 4) : s.Works (probeAt k c s).1 := by
  unfold probeAt
  split
  · exact .refl s
  · split
    · exact .refl s
    · exact s.works_probe _

theorem State.works_presetAt (s : State) (value : Int) (c : Fin 4) : s.Works (presetAt value c s).1 := by
  unfold presetAt
  split
  · exact .refl s
  · split
    · exact .refl s
    · split
      · exact .refl s
      · exact (State.Works.setOrigin s c _).trans (.ite _ (State.works_trav _ _))

theorem State.works_setTraverse (s : State) (q : SetTraverseReq) : s.Works (setTraverse q s).1 := by
  unfold setTraverse
  split
  · exact .refl s
  · split
    · exact .refl s
    · exact s.works_trav _

theorem State.works_loseLatches (s : State) : s.Works s.loseLatches := by
  have lost := s.works_eng { s.eng with latches := [] }
  unfold State.loseLatches
  dsimp only
  split
  · exact lost
  · exact lost.trans (State.works_lostStrobe _)

theorem State.works_setDetector (s : State) (q : SetDetectorReq) : s.Works (setDetector q s).1 := by
  unfold setDetector
  split
  · exact .refl s
  · split
    · exact .refl s
    · dsimp only
      split
      · exact .refl s
      · exact (s.works_eng _).trans (.ite _ ((State.works_loseLatches _).trans (State.works_discardPulse _ _)))

theorem State.works_insertRecord (s : State) (q : InsertReq) : s.Works (insertRecord q s).1 := by
  unfold insertRecord
  split
  · split
    · exact .refl s
    · split
      · exact .refl s
      · split
        · exact .refl s
        · exact s.works_table _
  · exact .refl s

theorem State.works_changeRecordOn (s : State) (q : ChangeReq) (r : LineRec) : s.Works (changeRecordOn q r s).1 := by
  unfold changeRecordOn
  dsimp only
  split
  · exact .refl s
  · split
    · exact .refl s
    · split
      · exact .refl s
      · split
        · exact .refl s
        · exact (s.works_table _).trans (State.works_raiseIfCompleted _ _ _)

theorem State.works_changeRecord (s : State) (q : ChangeReq) : s.Works (changeRecord q s).1 := by
  unfold changeRecord
  split
  · exact .refl s
  · exact onRecord_works (s.works_changeRecordOn q)

theorem State.works_retireRecordOn (s : State) (r : LineRec) : s.Works (retireRecordOn r s).1 :=
  (s.works_table _).trans (.ite _ (State.works_eng _ _))

theorem State.works_setRecordStateOn (s : State) (state : Byte) (r : LineRec) :
    s.Works (setRecordStateOn state r s).1 := by
  unfold setRecordStateOn
  split
  · exact .refl s
  · split
    · exact .refl s
    · exact (s.works_table _).trans (State.works_raiseIfCompleted _ _ _)

theorem State.works_clearResults (s : State) (label : BitVec 16) (unlisted : BitVec 7) :
    s.Works (clearResults label unlisted s).1 := by
  unfold clearResults
  split
  · exact .refl s
  · exact onRecord_works fun r => s.works_table _

theorem State.works_clearResultsAll (s : State) (unlisted : BitVec 7) : s.Works (clearResultsAll unlisted s).1 := by
  unfold clearResultsAll
  split
  · exact .refl s
  · exact .write s s.probe _ s.trav _

theorem State.works_findPosition (s : State) (p : Int) : s.Works (findPosition p s).1 := by
  unfold findPosition
  split
  · exact .refl s
  · split
    · exact .refl s
    · split <;> exact .refl s

theorem State.works_seek (s : State) (p : Int) : s.Works (seek p s).1 := by
  unfold seek
  split
  · exact .refl s
  · exact s.works_table _

theorem State.works_readNext (s : State) (filter : Byte) : s.Works (readNext filter s).1 := by
  unfold readNext
  split
  · exact .refl s
  · split
    · exact .refl s
    · exact s.works_table _

theorem State.works_raiseAgain (set : BitVec 16) (s : State) (i : Fin 16) : s.Works (s.raiseAgain set i) := by
  unfold State.raiseAgain
  split
  · split
    · exact .refl s
    · exact s.works_raise _
  · exact .refl s

end Sys2Proof.Machine

namespace Sys2Proof.Machine

/-! ### The index and the factors (R49, R59, R61, R63) -/

/-- The index is a matter of the channels and the compensation unit alone. -/
theorem State.IndexSound.of_same {s t : State} (h : s.IndexSound) (chans : t.chans = s.chans) (comp : t.comp = s.comp) :
    t.IndexSound := by
  have same : ∀ c, t.chan c = s.chan c := State.chan_congr chans
  constructor <;> simp only [same, comp]
  · exact h.target
  · exact h.applied
  · exact h.slew
  · exact h.datum
  · exact h.factors

@[simp] theorem State.applyValues_comp (s : State) (nu : Int) (t : Option Int) :
    (s.applyValues nu t).comp = { s.comp with nuApplied := nu, tApplied := t } := by
  unfold State.applyValues
  dsimp only
  split <;> rfl

/-- A factor read after every M is formed anew (R63). -/
theorem State.refactorAll_factor (s : State) (c : Fin 4) : s.refactorAll.comp.factors[c] = s.factorOf c := by
  fin_cases c <;> rfl

/-- An index in the range of R49 is applied with the factors that it gives (R63). -/
theorem State.IndexSound.applyValues {s : State} (h : s.IndexSound) {nu : Int} (range : 0 ≤ nu ∧ nu ≤ 400000)
    (t : Option Int) : (s.applyValues nu t).refactorAll.IndexSound where
  target := by simpa using h.target
  applied := by simpa using range
  slew := by simpa using h.slew
  datum c := by simpa [State.chan] using h.datum c
  factors c := State.refactorAll_factor _ c

theorem State.IndexSound.passHoldStep {s : State} (h : s.IndexSound) : s.passHoldStep.IndexSound := by
  unfold State.passHoldStep
  split
  · exact h.applyValues h.target _
  · exact h

/-- A channel written with its λ and K as they were, and a ν0 in the range of the index. -/
theorem State.IndexSound.setChan {s : State} (h : s.IndexSound) {c : Fin 4} {ch : Channel}
    (datum : 0 ≤ ch.nu0 ∧ ch.nu0 ≤ 400000) (lambda : ch.lambda = (s.chan c).lambda)
    (passK : ch.passK = (s.chan c).passK) : (s.setChan c ch).IndexSound := by
  refine ⟨h.target, h.applied, h.slew, fun c' => ?_, fun c' => ?_⟩ <;> rw [State.chan_setChan] <;> split
  · exact datum
  · exact h.datum c'
  · next e =>
    rw [lambda, passK, ← e]
    exact h.factors c'
  · exact h.factors c'

/-- The pass and the registration engine apply the index target, or set a ν0 to the index applied, at most. -/
theorem State.Works.indexSound {s t : State} (w : s.Works t) (h : s.IndexSound) : t.IndexSound := by
  induction w with
  | refl s => exact h
  | trans _ _ ih ih' => exact ih' (ih h)
  | write | note | reach => exact { h with }
  | passHoldStep s => exact h.passHoldStep
  | setOrigin s c o => exact h.setChan h.applied rfl rfl

/-! ### Samples (R4, R18, R22) -/

/-- A sample leaves ν0 (R17). -/
theorem Channel.count_nu0 (ch : Channel) (x : SampleIn) : (ch.count x).ch.nu0 = ch.nu0 := by
  rw [ch.count_eq, (ch.watched (ch.point x)).countsTo_countStep (ch.point x), ch.watched_eq]
  rfl

theorem State.IndexSound.counting {s : State} (h : s.IndexSound) (x : SampleIn) : (s.counting x).IndexSound := by
  obtain ⟨-, -, passK, lambda, -⟩ := (s.chan x.ch).sameSettings_count x
  have counted : (s.setChan x.ch ((s.chan x.ch).count x).ch).IndexSound :=
    h.setChan (by rw [Channel.count_nu0]; exact h.datum x.ch) lambda passK
  refine (State.works_startRun _ _ _ _).indexSound ?_
  rw [State.judgeAnchor_eq]
  exact { counted with }

theorem State.IndexSound.countSample {s : State} (h : s.IndexSound) (x : SampleIn) : (s.countSample x).IndexSound := by
  unfold State.countSample
  split
  · have counting := ((s.works_dueFirst x.ch).indexSound h).counting x
    have reported := (State.works_reported (s.dueFirst x.ch) x).indexSound counting
    rw [State.countNow_eq, State.followTracks_frame]
    exact { reported with }
  · exact h

theorem State.IndexSound.countIf {s : State} (h : s.IndexSound) (x : SampleIn) (kind : Channel → Point → Bool) :
    (s.countIf x kind).IndexSound := by
  unfold State.countIf
  split
  · exact h.countSample x
  · exact h

/-! ### The update (R46, R49, R59 to R61) -/

theorem clampNu_bounds (v : Int) : 0 ≤ clampNu v ∧ clampNu v ≤ 400000 := clamp_bounds (by decide) v

theorem State.indexTarget_bounds {s : State} (h : 0 ≤ s.comp.nuTarget ∧ s.comp.nuTarget ≤ 400000) :
    0 ≤ s.indexTarget ∧ s.indexTarget ≤ 400000 := by
  unfold State.indexTarget
  dsimp only
  split
  · exact clampNu_bounds _
  · split
    · exact clampNu_bounds _
    · exact h
  · split
    · exact clampNu_bounds _
    · exact h

theorem State.IndexSound.formTargets {s : State} (h : s.IndexSound) : s.formTargets.IndexSound :=
  { h with target := State.indexTarget_bounds (s := { s with comp := s.comp.aged }) h.target }

/-- A slewed value lies between the one applied and its target (R60). -/
theorem slewed_bounds {lo hi limit target applied : Int} (positive : 1 ≤ limit) (ht : lo ≤ target ∧ target ≤ hi)
    (ha : lo ≤ applied ∧ applied ≤ hi) : lo ≤ slewed limit target applied ∧ slewed limit target applied ≤ hi := by
  simp only [slewed, mag_eq_abs, abs_le]
  split
  · exact ht
  · split <;> omega

theorem State.IndexSound.moveApplied {s : State} (h : s.IndexSound) {nu : Int} (range : 0 ≤ nu ∧ nu ≤ 400000)
    (t : Option Int) : (s.moveApplied nu t).IndexSound := by
  unfold State.moveApplied
  split
  · next same =>
    subst same
    have kept : { s with comp := { s.comp with tApplied := t } }.IndexSound := { h with }
    exact kept.of_same (s.applyValues_chans _ _) (s.applyValues_comp _ _)
  · exact h.applyValues range t

theorem State.IndexSound.policyStep {s : State} (h : s.IndexSound) : s.policyStep.IndexSound := by
  unfold State.policyStep
  split
  · exact h.moveApplied h.target _
  · exact h.moveApplied (slewed_bounds h.slew h.target h.applied) _
  · split
    · exact h
    · exact h.moveApplied h.target _

theorem State.IndexSound.judgeStale {s : State} (h : s.IndexSound) : s.judgeStale.IndexSound := by
  have judged : { s with comp := { s.comp with stale := s.comp.judgesStale } }.IndexSound := { h with }
  unfold State.judgeStale
  dsimp only
  split
  · exact (State.works_raise _ _).indexSound judged
  · exact judged

theorem State.IndexSound.update {s : State} (h : s.IndexSound) : s.update.IndexSound := by
  unfold State.update
  split
  · exact h.formTargets.policyStep.judgeStale
  · exact h

/-! ### The channels' requests (R17 to R22) -/

theorem onChannel_indexSound {b : Byte} {f : Fin 4 → State → State × Response} {s : State} (h : s.IndexSound)
    (hf : ∀ c, (f c s).1.IndexSound) : (onChannel b f s).1.IndexSound := by
  unfold onChannel
  split
  · exact h
  · exact hf _

theorem State.IndexSound.channelOnAt {s : State} (h : s.IndexSound) (c : Fin 4) : (channelOnAt c s).1.IndexSound := by
  unfold Machine.channelOnAt
  split
  · exact h
  · have started : (s.setChan c ((s.chan c).started s.measure.next)).IndexSound :=
      h.setChan (ch := (s.chan c).started s.measure.next) (h.datum c) rfl rfl
    exact (State.Works.ite _ (State.works_trav _ _)).indexSound started

theorem State.IndexSound.switchOff {s : State} (h : s.IndexSound) (c : Fin 4) : (s.switchOff c).IndexSound := by
  have stopped : (s.setChan c (s.chan c).stopped).IndexSound :=
    h.setChan (ch := (s.chan c).stopped) (h.datum c) rfl rfl
  rw [State.switchOff_eq]
  refine (State.works_abortProbe _ _).indexSound ?_
  rw [State.halted, State.offEngine_frame, State.judgeAnchor_eq]
  exact { stopped with }

theorem State.IndexSound.channelOffAt {s : State} (h : s.IndexSound) (c : Fin 4) : (channelOffAt c s).1.IndexSound := by
  unfold Machine.channelOffAt
  split
  · exact h
  · dsimp only
    split
    · exact h
    · exact h.switchOff c

/-- SET_CHANNEL forms M of its channel anew where its λ or K changes (R22, R63). -/
theorem State.IndexSound.withChannel {s : State} (h : s.IndexSound) (c : Fin 4) {after : Channel}
    (nu0 : after.nu0 = (s.chan c).nu0) : (s.withChannel c after).IndexSound := by
  have chan : ∀ c', (s.withChannel c after).chan c' = if c' = c then after else s.chan c' := fun c' =>
    s.chan_setChan c c' after
  refine ⟨h.target, h.applied, h.slew, fun c' => ?_, fun c' => ?_⟩
  · rw [chan]
    split
    · rw [nu0]
      exact h.datum c
    · exact h.datum c'
  · refine (s.refactored_get c c' after).trans ?_
    rw [chan]
    by_cases same : c' = c
    · subst same
      by_cases changed : after.lambda ≠ (s.chan c').lambda ∨ after.passK ≠ (s.chan c').passK
      · rw [if_pos ⟨rfl, changed⟩, if_pos rfl]
        rfl
      · obtain ⟨lambda, passK⟩ := not_or.mp changed
        rw [if_neg fun h => changed h.2, if_pos rfl, not_not.mp lambda, not_not.mp passK]
        exact h.factors c'
    · rw [if_neg fun h => same h.1, if_neg same]
      exact h.factors c'

theorem State.IndexSound.setChannelOn {s : State} (h : s.IndexSound) (q : SetChannelReq) (c : Fin 4) :
    (setChannelOn q c s).1.IndexSound := by
  unfold Machine.setChannelOn
  split
  · exact h
  · split
    · exact h
    · split
      · exact h
      · split
        · dsimp only
          rw [State.applyChannel_eq]
          have set := fun role sense passK source =>
            h.withChannel c (after := q.apply role sense passK source (s.chan c)) rfl
          split
          · exact (State.works_endPass _ _ _).indexSound (set _ _ _ _)
          · exact set _ _ _ _
        · exact h

theorem State.IndexSound.setChannel {s : State} (h : s.IndexSound) (q : SetChannelReq) :
    (setChannel q s).1.IndexSound := by
  unfold Machine.setChannel
  split
  · exact h
  · exact onChannel_indexSound h (h.setChannelOn q)

theorem State.IndexSound.setQuadratureOn {s : State} (h : s.IndexSound) (q : SetQuadratureReq) (c : Fin 4) :
    (setQuadratureOn q c s).1.IndexSound :=
  h.setChan (ch := { s.chan c with codes := q.codes }) (h.datum c) rfl rfl

theorem State.IndexSound.setMonitor {s : State} (h : s.IndexSound) (q : SetMonitorReq) :
    (setMonitor q s).1.IndexSound := by
  unfold Machine.setMonitor
  split
  · exact h
  · exact onChannel_indexSound h fun c =>
      h.setChan (ch := { s.chan c with mon := q.apply (s.chan c).mon }) (h.datum c) rfl rfl

/-! ### The compensation unit's requests (R48, R54, R56) and ACKNOWLEDGE (R156) -/

theorem le_settle {lo hi held : Int} (range : lo ≤ hi) (h : lo ≤ held) (v : Option Int) : lo ≤ settle lo hi held v := by
  cases v with
  | none => exact h
  | some v => exact (clamp_bounds range v).1

theorem State.IndexSound.setCompensation {s : State} (h : s.IndexSound) (q : SetCompensationReq) :
    (setCompensation q s).1.IndexSound := by
  have set : ∀ source policy anchor,
      { s with comp := { q.apply source policy s.comp with anchor := anchor } }.IndexSound := fun source policy anchor =>
    { h with slew := le_settle (by decide) h.slew _ }
  unfold Machine.setCompensation
  split
  · exact h
  · split
    · split
      · exact h
      · unfold State.applyCompensation
        dsimp only
        refine (State.Works.ite _ (State.works_trav _ _)).indexSound ?_
        split
        · exact set _ _ none
        · exact set _ _ s.comp.anchor
    · exact h

theorem State.IndexSound.putEnvironment {s : State} (h : s.IndexSound) (q : PutEnvironmentReq) :
    (putEnvironment q s).1.IndexSound := by
  unfold Machine.putEnvironment
  split
  · exact h
  · refine (State.Works.ite _ (State.works_raise _ _)).indexSound ?_
    exact { h with }

theorem State.IndexSound.anchorTracker {s : State} (h : s.IndexSound) (nu : Option (BitVec 32)) (unlisted : BitVec 7) :
    (anchorTracker nu unlisted s).1.IndexSound := by
  have anchored : ∀ a, (s.setAnchor a).IndexSound := fun a => { h with }
  unfold Machine.anchorTracker
  split
  · exact h
  · split
    · exact h
    · split
      · exact h
      · split
        · exact h
        · split <;> split
          · exact h
          · exact anchored _
          · exact h
          · exact anchored _

theorem State.IndexSound.setAttention {s : State} (h : s.IndexSound) (q : SetAttentionReq) :
    (setAttention q s).1.IndexSound := by
  unfold Machine.setAttention
  split
  · exact h
  · split
    · exact h
    · exact { h with }

theorem State.IndexSound.acknowledge {s : State} (h : s.IndexSound) (set : BitVec 16) :
    (acknowledge set s).1.IndexSound := by
  have cleared : (s.clearSources set).IndexSound := { h with }
  exact (State.Works.foldl (State.works_raiseAgain set) _ _).indexSound cleared

/-! ### The port and the resets (R161, R166, R174 to R176) -/

theorem State.IndexSound.offerFrame {s : State} (h : s.IndexSound) (f : Frame) : (s.offerFrame f).IndexSound := by
  have accepted : (s.acceptFrame f).IndexSound := by
    unfold State.acceptFrame
    split <;> exact { h with }
  unfold State.offerFrame
  split
  · exact accepted
  · exact accepted
  · exact (s.works_raise _).indexSound h
  · exact h

theorem State.IndexSound.transaction {s : State} (h : s.IndexSound) {judge : State → State}
    (judged : (judge s).IndexSound) : (s.transaction judge).IndexSound := by
  unfold State.transaction
  split
  · exact h
  · split
    · exact judged
    · exact { h with }

/-! ### Every command -/

theorem complete_indexSound {i : Instr} {f : State → State × Response} {s t : State} (h : s.IndexSound)
    (served : (f s).1.IndexSound) (e : complete i f s = .next t) : t.IndexSound := by
  obtain ⟨-, h'⟩ | ⟨-, h'⟩ := complete_cases i s f <;> rw [h'] at e <;> cases e
  · exact { served with }
  · exact h

theorem exec_indexSound {i : Instr} {s t : State} (h : s.IndexSound) (e : exec i s = .next t) : t.IndexSound := by
  cases i with
  | powerOn | rstnAssert =>
    cases e
    exact { State.reset_indexSound with }
  | rstnRelease =>
    cases e
    split
    · exact { State.reset_indexSound with }
    · exact h
  | resetPart =>
    cases e
    split
    · exact { State.reset_indexSound with }
    · exact h
  | conversion =>
    cases e
    split
    · exact { h with }
    · exact h
  | sampleCounted x =>
    cases e
    exact h.countSample x
  | bridgeCheck x | coastTimeout x | settleComplete x | saturationSet x | saturationClear x =>
    cases e
    exact h.countIf x _
  | probeComplete x =>
    cases e
    split
    · exact h.countSample x
    · exact h
  | update =>
    cases e
    exact h.update
  | envStaleCondition =>
    cases e
    split
    · exact h.update
    · exact h
  | edgeAccept level t held =>
    cases e
    exact (State.Works.ite _ (s.works_confirmLevel level t)).indexSound h
  | latchComplete =>
    cases e
    exact (State.Works.ite _ (s.works_eng _)).indexSound h
  | alignedSample =>
    cases e
    exact (State.Works.ite _ s.works_reachAligned).indexSound h
  | emptyTransaction bits =>
    cases e
    exact h.transaction h
  | requestFrame bytes tail =>
    cases e
    split
    · have driven : (s.drive (List.replicate bytes.length 0xFF#8)).IndexSound := { h with }
      exact h.transaction (driven.offerFrame _)
    · exact h
  | fetch n =>
    cases e
    have driven : (s.drive (fetchBytes s.fetched n)).IndexSound := { h with }
    exact h.transaction driven
  | csnSeenHigh =>
    cases e
    split
    · exact h
    · exact { h with }
  | frameError => exact complete_indexSound h ((s.works_raise _).indexSound h) e
  | unknown | readCompensation | readTraverse | readProbe | readAttention => exact complete_indexSound h h e
  | readChannel ch => exact complete_indexSound h (onChannel_indexSound h fun _ => h) e
  | readRecord label | readResult label =>
    exact complete_indexSound h ((onRecord_works fun _ => .refl s).indexSound h) e
  | readInterval a b =>
    exact complete_indexSound h ((onRecord_works fun _ => onRecord_works fun _ => .refl s).indexSound h) e
  | setChannel q => exact complete_indexSound h (h.setChannel q) e
  | setQuadrature q =>
    exact complete_indexSound h (onChannel_indexSound h (h.setQuadratureOn q)) e
  | setMonitor q => exact complete_indexSound h (h.setMonitor q) e
  | setCompensation q => exact complete_indexSound h (h.setCompensation q) e
  | setDetector q => exact complete_indexSound h ((s.works_setDetector q).indexSound h) e
  | setTraverse q => exact complete_indexSound h ((s.works_setTraverse q).indexSound h) e
  | setAttention q => exact complete_indexSound h (h.setAttention q) e
  | channelOn ch => exact complete_indexSound h (onChannel_indexSound h h.channelOnAt) e
  | channelOff ch => exact complete_indexSound h (onChannel_indexSound h h.channelOffAt) e
  | preset ch value => exact complete_indexSound h ((onChannel_works (s.works_presetAt _)).indexSound h) e
  | home => exact complete_indexSound h (s.works_home.indexSound h) e
  | putEnvironment q => exact complete_indexSound h (h.putEnvironment q) e
  | anchorTracker nu unlisted => exact complete_indexSound h (h.anchorTracker nu unlisted) e
  | startPlan count => exact complete_indexSound h ((s.works_startPlan _).indexSound h) e
  | stopPlan => exact complete_indexSound h (s.works_stopPlan.indexSound h) e
  | endPass => exact complete_indexSound h (s.works_endPassRequest.indexSound h) e
  | probe ch k => exact complete_indexSound h ((onChannel_works (s.works_probeAt _)).indexSound h) e
  | insertRecord q => exact complete_indexSound h ((s.works_insertRecord q).indexSound h) e
  | changeRecord q => exact complete_indexSound h ((s.works_changeRecord q).indexSound h) e
  | retireRecord label => exact complete_indexSound h ((onRecord_works s.works_retireRecordOn).indexSound h) e
  | setRecordState label state =>
    exact complete_indexSound h ((onRecord_works (s.works_setRecordStateOn state)).indexSound h) e
  | clearResults label unlisted => exact complete_indexSound h ((s.works_clearResults label unlisted).indexSound h) e
  | clearResultsAll unlisted => exact complete_indexSound h ((s.works_clearResultsAll unlisted).indexSound h) e
  | findPosition p => exact complete_indexSound h ((s.works_findPosition _).indexSound h) e
  | seek p => exact complete_indexSound h ((s.works_seek _).indexSound h) e
  | readNext filter => exact complete_indexSound h ((s.works_readNext filter).indexSound h) e
  | acknowledge set => exact complete_indexSound h (h.acknowledge set) e

/-- Settles O58: the index moves by the clamped target, by a slew toward it and by a reset alone, and M is formed anew where the
index, a λ or a K changes. -/
theorem stepKeepsIndexSound : Obligations.StepKeepsIndexSound := by
  intro s t h e
  unfold step at e
  split at e
  · cases e
    exact h
  · next rest _ =>
    have popped : { s with pending := rest }.IndexSound := { h with }
    exact exec_indexSound popped e

end Sys2Proof.Machine

namespace Sys2Proof.Machine

/-! ### The index of the environment record and of the tracker's count (R49, R51, R57) -/

theorem clampNu_eq (v : Int) : clampNu v = max 0 (min 400000 v) := clamp_eq (by decide) v

theorem envIndex_eq {e : Env} {p tAir : Int} (a b : Int) (hp : e.p = some p) (ht : e.tAir = some tAir)
    (positive : 0 < tAir + 273150) :
    envIndex a b e = max 0 (min 400000
      (⌊((a * p : Int) : ℚ) / ((tAir + 273150 : Int) : ℚ)⌋ - ⌊((b * e.e.getD 0 : Int) : ℚ) / 1000⌋)) := by
  rw [envIndex, clampNu_eq, hp, ht, Option.getD_some, Option.getD_some, divDown_eq_floor _ positive,
    divDown_eq_floor _ (by norm_num)]
  rfl

theorem trackerIndex_eq {passK lt : Int} (anchor : TrackerAnchor) (q lambda : Int) (hk : 0 < passK) (hl : 0 < lt) :
    trackerIndex anchor q lambda passK lt = max 0 (min 400000
      (anchor.nu + ⌊((q - anchor.q) * lambda : ℚ) / (4096 * passK * lt) + 1 / 2⌋)) := by
  rw [trackerIndex, clampNu_eq, divNearest_eq_floor _ (by positivity)]
  push_cast
  rfl

/-! ### Steps 5 and 6 of an update (R46, R59 to R63, R98) -/

/-- The values applied move, the factors follow a change of the index, and the velocity ring is emptied by a change of either. -/
theorem State.moveApplied_eq (s : State) (nu : Int) (t : Option Int) :
    s.moveApplied nu t = { s with
      comp := { s.comp with nuApplied := nu, tApplied := t, factors := (s.moveApplied nu t).comp.factors }
      trav := { s.trav with ring :=
        if nu = s.comp.nuApplied ∧ t = s.comp.tApplied then s.trav.ring else [] } } := by
  have applied : s.applyValues nu t = { s with
      comp := { s.comp with nuApplied := nu, tApplied := t }
      trav := { s.trav with ring :=
        if nu = s.comp.nuApplied ∧ t = s.comp.tApplied then s.trav.ring else [] } } := by
    unfold State.applyValues
    by_cases same : nu = s.comp.nuApplied ∧ t = s.comp.tApplied
    · obtain ⟨rfl, rfl⟩ := same
      simp
    · rw [if_neg same, if_pos (not_and_or.mp same)]
      rfl
  unfold State.moveApplied
  rw [applied]
  split <;> rfl

theorem State.moveApplied_factors (s : State) (nu : Int) (t : Option Int) :
    if nu = s.comp.nuApplied then (s.moveApplied nu t).comp.factors = s.comp.factors
    else ∀ f : Fin 4, (s.moveApplied nu t).comp.factors[f] = lengthFactor (s.chan f).lambda (s.chan f).passK nu := by
  unfold State.moveApplied
  split
  · simp
  · intro f
    rw [State.refactorAll_factor, State.factorOf, State.applyValues_comp, State.chan_congr (s.applyValues_chans _ _)]

/-- The values applied set to themselves. -/
theorem State.moveApplied_self (s : State) : s.moveApplied s.comp.nuApplied s.comp.tApplied = s := by
  simp [State.moveApplied, State.applyValues]

/-- The index that step 5 of an update applies (R59 to R61). -/
def State.nextNu (s : State) : Int :=
  match s.comp.forcePolicy with
  | .step => s.comp.nuTarget
  | .slew => slewed s.comp.sNu s.comp.nuTarget s.comp.nuApplied
  | .passHold => if s.running then s.comp.nuApplied else s.comp.nuTarget

/-- The scale temperature that step 5 of an update applies (R59 to R61). -/
def State.nextT (s : State) : Option Int :=
  match s.comp.forcePolicy with
  | .step => s.comp.steppedT
  | .slew => s.comp.slewedT
  | .passHold => if s.running then s.comp.tApplied else s.comp.steppedT

theorem State.policyStep_eq (s : State) : s.policyStep = s.moveApplied s.nextNu s.nextT := by
  unfold State.policyStep State.nextNu State.nextT
  cases s.comp.forcePolicy with
  | step | slew => rfl
  | passHold =>
    cases s.running with
    | true => exact s.moveApplied_self.symm
    | false => rfl

/-! ### An update (R46) -/

/-- The part after steps 1 to 6 of an update: the stale condition is still to be judged. -/
def State.moved (s : State) : State := s.formTargets.policyStep

theorem State.moved_eq (s : State) :
    s.moved = { s with
      comp := { s.formTargets.comp with
        nuApplied := s.formTargets.nextNu, tApplied := s.formTargets.nextT, factors := s.moved.comp.factors }
      trav := { s.trav with ring :=
        if s.formTargets.nextNu = s.comp.nuApplied ∧ s.formTargets.nextT = s.comp.tApplied then s.trav.ring else [] } } := by
  rw [State.moved, State.policyStep_eq]
  exact State.moveApplied_eq _ _ _

theorem State.update_eq {s : State} (active : s.active = true) : s.update = s.moved.judgeStale := if_pos active

/-- The stale condition as the age and the freshness of this update have it (R52, R53). -/
theorem State.moved_judgesStale (s : State) : s.moved.comp.judgesStale = s.comp.aged.judgesStale := by
  rw [s.moved_eq]
  rfl

theorem State.moved_stale (s : State) : s.moved.comp.stale = s.comp.stale := by
  rw [s.moved_eq]
  rfl

/-- The stale condition judged without a raising. -/
def State.judged (s : State) : State := { s with comp := { s.comp with stale := s.comp.judgesStale } }

theorem State.judgeStale_of_begins {s : State} (judges : s.comp.judgesStale = true) (stale : s.comp.stale = false) :
    s.judgeStale = s.judged.raise s.comp.staleDetail := by
  simp [State.judgeStale, State.judged, judges, stale]

theorem State.judgeStale_of_not {s : State} (h : ¬(s.comp.judgesStale = true ∧ s.comp.stale = false)) :
    s.judgeStale = s.judged := by
  refine if_neg fun begins => h ?_
  simpa using begins

theorem State.judgeStale_cases (s : State) :
    s.judgeStale = s.judged ∨ s.judgeStale = s.judged.raise s.comp.staleDetail := by
  by_cases h : s.comp.judgesStale = true ∧ s.comp.stale = false
  · exact .inr (State.judgeStale_of_begins h.1 h.2)
  · exact .inl (State.judgeStale_of_not h)

/-- Of the compensation unit the pass and the registration engine write the values applied and the factors alone (R61). -/
theorem State.Works.comp {s t : State} (w : s.Works t) :
    t.comp = { s.comp with nuApplied := t.comp.nuApplied, tApplied := t.comp.tApplied, factors := t.comp.factors } := by
  induction w with
  | refl | write | note | setOrigin | reach => rfl
  | trans _ _ ih ih' => rw [ih', ih]
  | passHoldStep s =>
    unfold State.passHoldStep
    split
    · simp
    · rfl

/-- What an update leaves in the compensation unit, the values applied and the factors apart. -/
theorem State.update_comp {s : State} (active : s.active = true) :
    s.update.comp = { s.formTargets.comp with
      stale := s.comp.aged.judgesStale
      nuApplied := s.update.comp.nuApplied, tApplied := s.update.comp.tApplied, factors := s.update.comp.factors } := by
  have judged : s.moved.judged.Works s.update := by
    rw [State.update_eq active]
    obtain h | h := s.moved.judgeStale_cases <;> rw [h]
    · exact .refl _
    · exact State.works_raise _ _
  rw [judged.comp, State.judged, s.moved_judgesStale]
  rw [s.moved_eq]

/-! ### The index target by its source (R49, R50, R52, R57) -/

section
variable {s : State}

theorem State.indexTarget_fixed (source : s.comp.source = .fixed) : s.indexTarget = clampNu s.comp.nuFixed := by
  simp [State.indexTarget, source]

theorem State.indexTarget_fresh (source : s.comp.source = .environment) (fresh : s.comp.fresh = true) :
    s.indexTarget = envIndex s.comp.a s.comp.b s.comp.env := by
  simp [State.indexTarget, source, fresh]

theorem State.indexTarget_unfresh (source : s.comp.source = .environment) (unfresh : ¬s.comp.fresh = true) :
    s.indexTarget = s.comp.nuTarget := by
  simp [State.indexTarget, source, unfresh]

theorem State.indexTarget_anchored {a : TrackerAnchor} {f : Fin 4} (source : s.comp.source = .tracker)
    (anchored : s.comp.anchor = some a) (tracker : s.tracker = some f) :
    s.indexTarget = trackerIndex a (s.chan f).q (s.chan f).lambda (s.chan f).passK s.comp.lt := by
  simp [State.indexTarget, source, anchored, tracker]

theorem State.indexTarget_unanchored (source : s.comp.source = .tracker) (unanchored : s.comp.anchor = none) :
    s.indexTarget = s.comp.nuTarget := by
  simp [State.indexTarget, source, unanchored]

end

/-! ### An update as a whole (R46, R53) -/

/-- An update is no matter of the channels, the probe unit, the tracks, the port and the conversions. -/
theorem State.update_frame {s : State} :
    s.update.chans = s.chans ∧ s.update.probe = s.probe ∧ s.update.tracks = s.tracks ∧ s.update.port = s.port ∧
      s.update.conversions = s.conversions := by
  cases active : s.active with
  | false => simp [State.update, active]
  | true =>
    rw [State.update_eq active]
    obtain h | h := s.moved.judgeStale_cases <;> rw [h, s.moved_eq] <;> simp [State.judged]

theorem Comp.aged_age (c : Comp) : c.aged.age = min (2 ^ 32 - 1) (c.age + 1) := satInc_eq_min _ _

theorem Comp.isFresh_iff {c : Comp} :
    c.isFresh = true ↔ c.env.p ≠ none ∧ c.env.tAir ≠ none ∧ (c.age : Int) ≤ 1000 * c.ageLimit := by
  simp only [Comp.isFresh, Bool.and_eq_true, Option.isSome_iff_ne_none, decide_eq_true_eq, and_assoc]

theorem Comp.aged_fresh_iff {c : Comp} :
    c.aged.fresh = true ↔ c.env.p ≠ none ∧ c.env.tAir ≠ none ∧
      ((min (2 ^ 32 - 1) (c.age + 1) : Nat) : Int) ≤ 1000 * c.ageLimit := by
  rw [← c.aged_age]
  exact Comp.isFresh_iff

/-- ENV_STALE_CONDITION is the update at which the condition begins (entry 6). -/
theorem State.beginsStale_iff {s : State} : s.beginsStale = true ↔
    s.active = true ∧ s.moved.comp.judgesStale = true ∧ s.moved.comp.stale = false := by
  rw [s.moved_judgesStale, s.moved_stale]
  simp only [State.beginsStale, Bool.and_eq_true, Bool.not_eq_true']
  tauto

theorem State.formTargets_tTarget (s : State) :
    s.formTargets.comp.tTarget = s.comp.env.tScale.or s.comp.tTarget := by
  unfold State.formTargets
  cases h : s.comp.env.tScale <;> simp [Comp.aged, h]

theorem Comp.judgesStale_iff {c : Comp} : c.judgesStale = true ↔ c.source = .environment ∧ ¬c.fresh = true := by
  simp [Comp.judgesStale]

theorem Comp.staleDetail_eq (c : Comp) :
    c.staleDetail = .envStale (if c.env.p ≠ none ∧ c.env.tAir ≠ none then some c.judgedAge else none) := by
  simp only [Comp.staleDetail, Option.isSome_iff_ne_none]

/-- Settles O31: each target by its source, and the condition by the freshness that the aged record has. -/
theorem updateFormsTheTargets : Obligations.UpdateFormsTheTargets := by
  intro s high free c age fresh bound begins
  have active : s.active = true := State.active_iff.mpr ⟨high, free⟩
  have comp := State.update_comp active
  have hfresh : c.aged.fresh = true ↔ fresh := Comp.aged_fresh_iff
  have hstale : c.aged.judgesStale = true ↔ c.source = .environment ∧ ¬fresh :=
    Comp.judgesStale_iff.trans (and_congr_right' (not_congr hfresh))
  have target : s.update.comp.nuTarget = { s with comp := c.aged }.indexTarget := congrArg Comp.nuTarget comp
  have begins_iff : s.moved.comp.judgesStale = true ∧ s.moved.comp.stale = false ↔ begins := by
    rw [s.moved_judgesStale, s.moved_stale, hstale, and_assoc]
  refine ⟨s.update, rfl, ⟨(congrArg Comp.age comp).trans c.aged_age, ?_⟩, fun source => ?_,
    fun p tAir source isFresh hp ht positive => ?_, fun source unfresh => ?_,
    fun a f source anchored tracker hk hl => ?_, fun source unanchored => ?_, ?_, ?_, fun starts => ⟨?_, ?_⟩,
    fun stays => ?_, State.update_frame⟩
  · rw [congrArg Comp.fresh comp]
    exact hfresh
  · rw [target, State.indexTarget_fixed (s := { s with comp := c.aged }) source]
    exact clampNu_eq _
  · rw [target, State.indexTarget_fresh (s := { s with comp := c.aged }) source (hfresh.mpr isFresh)]
    exact envIndex_eq _ _ hp ht positive
  · rw [target, State.indexTarget_unfresh (s := { s with comp := c.aged }) source (mt hfresh.mp unfresh)]
    rfl
  · rw [target, State.indexTarget_anchored (s := { s with comp := c.aged }) source anchored tracker]
    exact trackerIndex_eq a _ _ hk hl
  · rw [target, State.indexTarget_unanchored (s := { s with comp := c.aged }) source unanchored]
    rfl
  · rw [congrArg Comp.tTarget comp]
    refine s.formTargets_tTarget.trans ?_
    dsimp only [c]
    cases s.comp.env.tScale <;> rfl
  · rw [congrArg Comp.stale comp]
    exact hstale
  · exact congrArg _ (if_pos (State.beginsStale_iff.mpr ⟨active, begins_iff.mpr starts⟩))
  · obtain ⟨judges, stale⟩ := begins_iff.mpr starts
    have detail : s.moved.comp.staleDetail =
        .envStale (if c.env.p ≠ none ∧ c.env.tAir ≠ none then some age else none) := by
      rw [Comp.staleDetail_eq, s.moved_eq]
      exact congrArg (fun a => Detail.envStale (if c.env.p ≠ none ∧ c.env.tAir ≠ none then some a else none)) c.aged_age
    rw [State.update_eq active, State.judgeStale_of_begins judges stale, detail]
    exact State.raise_raised _ (.envStale _) (by simp [Detail.source]) (by simp [Detail.source]) (by simp [Detail.source])
  · rw [State.update_eq active, State.judgeStale_of_not (mt begins_iff.mp stays), s.moved_eq]
    exact ⟨rfl, rfl, rfl⟩

end Sys2Proof.Machine

namespace Sys2Proof.Machine

/-! ### The values applied (R59 to R61) -/

theorem slewed_eq (limit target applied : Int) :
    slewed limit target applied =
      if |target - applied| ≤ limit then target
      else if applied < target then applied + limit else applied - limit := by
  rw [slewed, mag_eq_abs]

/-- A PASS-HOLD update within a pass moves nothing (R61). -/
theorem State.next_of_holds {s : State} (h : s.comp.forcePolicy = .passHold ∧ s.trav.ctl = .running) :
    s.nextNu = s.comp.nuApplied ∧ s.nextT = s.comp.tApplied := by
  obtain ⟨policy, running⟩ := h
  simp [State.nextNu, State.nextT, policy, State.running, running]

/-- Any other update slews or steps (R59, R60). -/
theorem State.next_of_not_holds {s : State} (h : ¬(s.comp.forcePolicy = .passHold ∧ s.trav.ctl = .running)) :
    s.nextNu = (if s.comp.forcePolicy = .slew then slewed s.comp.sNu s.comp.nuTarget s.comp.nuApplied
      else s.comp.nuTarget) ∧
    s.nextT = if s.comp.forcePolicy = .slew then s.comp.slewedT else s.comp.steppedT := by
  unfold State.nextNu State.nextT
  cases policy : s.comp.forcePolicy with
  | step | slew => exact ⟨rfl, rfl⟩
  | passHold =>
    have still : s.running = false := decide_eq_false fun running => h ⟨policy, running⟩
    simp [still]

/-- Without a target for it the scale temperature applied stays. -/
theorem Comp.nextT_of_none {c : Comp} (h : c.tTarget = none) : c.slewedT = c.tApplied ∧ c.steppedT = c.tApplied := by
  simp [Comp.slewedT, Comp.steppedT, h]

/-- The first scale temperature is applied at once. -/
theorem Comp.nextT_of_first {c : Comp} {v : Int} (h : c.tTarget = some v) (first : c.tApplied = none) :
    c.slewedT = some v ∧ c.steppedT = some v := by
  simp [Comp.slewedT, Comp.steppedT, h, first]

theorem Comp.nextT_of_some {c : Comp} {v a : Int} (h : c.tTarget = some v) (applied : c.tApplied = some a) :
    c.slewedT = some (slewed c.sT v a) ∧ c.steppedT = some v := by
  simp [Comp.slewedT, Comp.steppedT, h, applied]

/-- An update whose ENV_STALE breaks no pass reaches no block but the attention unit by it (R150). -/
theorem State.update_unbroken {s : State} (active : s.active = true)
    (h : (s.source 6).action = .none ∨ s.trav.ctl ≠ .running) :
    ∃ att, s.update = { s.moved.judged with att := att } := by
  rw [State.update_eq active]
  obtain e | e := s.moved.judgeStale_cases <;> rw [e]
  · exact ⟨_, rfl⟩
  · have unbroken : (s.moved.judged.source 6).action = .none ∨ s.moved.judged.trav.ctl ≠ .running := by
      rw [State.judged, s.moved_eq]
      exact h
    rw [State.raise_eq_note (d := s.moved.comp.staleDetail) unbroken]
    exact ⟨_, rfl⟩

/-- Settles O32: what step 5 applies, by the policy; the factors and the ring by the values that it moves. -/
theorem updateMovesTheAppliedValues : Obligations.UpdateMovesTheAppliedValues := by
  intro s high free unbroken c holds toward
  obtain ⟨att, update⟩ := State.update_unbroken (State.active_iff.mpr ⟨high, free⟩) unbroken
  have moved := s.moved_eq
  set F := s.formTargets
  have nu : s.update.comp.nuApplied = F.nextNu := by
    rw [update, State.judged, moved]
  have t : s.update.comp.tApplied = F.nextT := by
    rw [update, State.judged, moved]
  have target : s.update.comp.nuTarget = F.comp.nuTarget ∧ s.update.comp.tTarget = F.comp.tTarget := by
    rw [update, State.judged, moved]
    exact ⟨rfl, rfl⟩
  have factors : s.update.comp.factors = (F.moveApplied F.nextNu F.nextT).comp.factors := by
    rw [update, State.judged, State.moved, State.policyStep_eq]
  have stepped : ∀ limit goal now, toward limit goal now = if c.policy = .slew then slewed limit goal now else goal :=
    fun limit goal now => by rw [slewed_eq]
  refine ⟨s.update, rfl, fun held => ?_, fun free' => ⟨?_, fun none => ?_, fun v some' first => ?_,
    fun v a some' applied => ?_⟩, ?_, ?_⟩
  · obtain ⟨hnu, ht⟩ := State.next_of_holds (s := F) held
    exact ⟨nu.trans hnu, t.trans ht⟩
  · obtain ⟨hnu, -⟩ := State.next_of_not_holds (s := F) free'
    rw [nu, hnu, target.1, stepped]
    rfl
  · obtain ⟨-, ht⟩ := State.next_of_not_holds (s := F) free'
    obtain ⟨slew, step⟩ := Comp.nextT_of_none (c := F.comp) (target.2 ▸ none)
    rw [t, ht, slew, step, ite_self]
    rfl
  · obtain ⟨-, ht⟩ := State.next_of_not_holds (s := F) free'
    obtain ⟨slew, step⟩ := Comp.nextT_of_first (c := F.comp) (target.2 ▸ some') first
    rw [t, ht, slew, step, ite_self]
  · obtain ⟨-, ht⟩ := State.next_of_not_holds (s := F) free'
    obtain ⟨slew, step⟩ := Comp.nextT_of_some (c := F.comp) (target.2 ▸ some') applied
    rw [t, ht, slew, step, stepped]
    exact (apply_ite some _ _ _).symm
  · rw [nu, factors]
    exact F.moveApplied_factors _ _
  · rw [nu, t, update, State.judged, moved]

end Sys2Proof.Machine

namespace Sys2Proof.Machine

/-! ### ANCHOR_TRACKER (R56) -/

section
variable {s : State} {f : Fin 4} (tracker : s.tracker = some f) (tracking : (s.chan f).state = .tracking)
  (long : s.comp.lt ≠ 0)

include tracker tracking long

/-- Without an index in the request, the record gives it, while it is fresh. -/
theorem anchorTracker_absent :
    anchorTracker none 0 s =
      if s.comp.fresh = false then refuse .state s
      else (s.setAnchor ⟨envIndex s.comp.forceA s.comp.forceB s.comp.env, (s.chan f).q⟩, accepted false) := by
  simp [anchorTracker, tracker, tracking, long, signed]

theorem anchorTracker_present (v : BitVec 32) :
    anchorTracker (some v) 0 s =
      if v.toInt < 0 ∨ Config.nuMax < v.toInt then refuse .range s
      else (s.setAnchor ⟨v.toInt, (s.chan f).q⟩, accepted false) := by
  simp [anchorTracker, tracker, tracking, long, signed]

end

/-- Settles O35: the refusals in their order, then the index carried or the record's. -/
theorem anchorTiesTheTrackerCount : Obligations.AnchorTiesTheTrackerCount := by
  intro nu s awaited refused anchored
  have run := complete_of_awaits awaited (anchorTracker nu 0)
  refine ⟨fun none => run.trans ?_, fun f tracker => ⟨fun off => run.trans ?_, fun tracking =>
    ⟨fun short => run.trans ?_, fun long => ⟨fun absent stale => run.trans ?_,
      fun p tAir absent fresh hp ht positive => run.trans ?_, fun v present out => run.trans ?_,
      fun v present lo hi => run.trans ?_⟩⟩⟩⟩
  · simp only [anchorTracker, none]
    rfl
  · simp only [anchorTracker, tracker, if_pos off]
    rfl
  · simp only [anchorTracker, tracker, if_neg (not_not.mpr tracking), if_pos short]
    rfl
  · rw [absent, anchorTracker_absent tracker tracking long, if_pos stale]
    rfl
  · rw [absent, anchorTracker_absent tracker tracking long, if_neg (by simp [fresh]), envIndex_eq _ _ hp ht positive]
    rfl
  · rw [present, anchorTracker_present tracker tracking long, if_pos (show _ ∨ Config.nuMax < _ from out)]
    rfl
  · have inside : ¬(v.toInt < 0 ∨ Config.nuMax < v.toInt) := not_or.mpr ⟨not_lt.mpr lo, not_lt.mpr hi⟩
    rw [present, anchorTracker_present tracker tracking long, if_neg inside]
    rfl

end Sys2Proof.Machine

namespace Sys2Proof.Machine

/-! ### SET_COMPENSATION (R48, R58, R98) -/

/-- A present signed field is set to its clamped value (R48). -/
theorem settle_signed {w : Nat} {lo hi : Int} (h : lo ≤ hi) (held : Int) (v : Option (BitVec w)) :
    settle lo hi held (signed v) = (v.map fun b => max lo (min hi b.toInt)).getD held := by
  rw [settle_eq h, signed, Option.map_map]
  rfl

theorem outside_signed {w : Nat} (lo hi : Int) (v : Option (BitVec w)) :
    outside lo hi (signed v) = (v.map fun b => decide (b.toInt < lo ∨ hi < b.toInt)).getD false := by
  rw [outside_eq, signed, Option.map_map]
  rfl

theorem clampLt_eq (v : Int) : clampLt v = if v ≤ 0 then 0 else max 1000 (min 2000000 v) := by
  rw [clampLt, clamp_eq (by norm_num)]

/-- The lengths that clamping moves (entry 18). -/
theorem clampLt_ne_iff {v : Int} : clampLt v ≠ v ↔ v < 0 ∨ (0 < v ∧ v < 1000) ∨ 2000000 < v := by
  rw [clampLt_eq]
  split <;> omega

/-- The settings that a SET_COMPENSATION writes, the numeric ones clamped (R48). -/
theorem SetCompensationReq.apply_eq (q : SetCompensationReq) (source : Option IndexSource) (policy : Option Policy)
    (c : Comp) :
    q.apply source policy c = { c with
      source := source.getD c.source
      nuFixed := (q.nuFixed.map fun b => max 0 (min 400000 b.toInt)).getD c.nuFixed
      a := (q.a.map fun b => max 600000 (min 1000000 b.toInt)).getD c.a
      b := (q.b.map fun b => max 0 (min 1000 (b.toNat : Int))).getD c.b
      ageLimit := (q.ageLimit.map fun b => max 1 (min 600 (b.toNat : Int))).getD c.ageLimit
      lt := (q.lt.map fun b => if b.toInt ≤ 0 then 0 else max 1000 (min 2000000 b.toInt)).getD c.lt
      policy := policy.getD c.policy
      sNu := (q.sNu.map fun b => max 1 (min 1000 (b.toNat : Int))).getD c.sNu
      sT := (q.sT.map fun b => max 1 (min 1000 (b.toNat : Int))).getD c.sT
      rb := (q.rb.map fun b => max (-262144) (min 262143 b.toInt)).getD c.rb
      alpha := (q.alpha.map fun b => max 0 (min 30000 (b.toNat : Int))).getD c.alpha } := by
  unfold SetCompensationReq.apply
  congr 1
  · exact settle_signed (by norm_num) _ _
  · exact settle_signed (by norm_num) _ _
  · exact settle_unsigned (by norm_num) _ _
  · exact settle_unsigned (by norm_num) _ _
  · cases q.lt with
    | none => rfl
    | some b => exact clampLt_eq _
  · exact settle_unsigned (by norm_num) _ _
  · exact settle_unsigned (by norm_num) _ _
  · exact settle_signed (by norm_num) _ _
  · exact settle_unsigned (by norm_num) _ _

/-- A SET_COMPENSATION clamps where a value lies outside its range (R48, R172). -/
theorem SetCompensationReq.clamps_eq (q : SetCompensationReq) :
    q.clamps = ((q.nuFixed.map fun b => decide (b.toInt < 0 ∨ 400000 < b.toInt)).getD false ||
      (q.a.map fun b => decide (b.toInt < 600000 ∨ 1000000 < b.toInt)).getD false ||
      (q.b.map fun b => decide ((b.toNat : Int) < 0 ∨ 1000 < (b.toNat : Int))).getD false ||
      (q.ageLimit.map fun b => decide ((b.toNat : Int) < 1 ∨ 600 < (b.toNat : Int))).getD false ||
      (q.lt.map fun b => decide (b.toInt < 0 ∨ (0 < b.toInt ∧ b.toInt < 1000) ∨ 2000000 < b.toInt)).getD false ||
      (q.sNu.map fun b => decide ((b.toNat : Int) < 1 ∨ 1000 < (b.toNat : Int))).getD false ||
      (q.sT.map fun b => decide ((b.toNat : Int) < 1 ∨ 1000 < (b.toNat : Int))).getD false ||
      (q.rb.map fun b => decide (b.toInt < -262144 ∨ 262143 < b.toInt)).getD false ||
      (q.alpha.map fun b => decide ((b.toNat : Int) < 0 ∨ 30000 < (b.toNat : Int))).getD false) := by
  simp only [SetCompensationReq.clamps, outside_signed, outside_unsigned]
  congr 5
  cases q.lt with
  | none => rfl
  | some b => exact decide_eq_decide.mpr clampLt_ne_iff

/-- The settings held, with no anchor after a change of Lt and no ring after one of Rb or α (R58, R98). -/
theorem State.applyCompensation_eq (s : State) (c : Comp) (held : c.anchor = s.comp.anchor) :
    s.applyCompensation c = { s with
      comp := { c with anchor := if c.lt = s.comp.lt then s.comp.anchor else none }
      trav := { s.trav with ring := if c.rb = s.comp.rb ∧ c.alpha = s.comp.alpha then s.trav.ring else [] } } := by
  have anchored : (if c.lt ≠ s.comp.lt then { c with anchor := none } else c) =
      { c with anchor := if c.lt = s.comp.lt then s.comp.anchor else none } := by
    by_cases same : c.lt = s.comp.lt
    · rw [if_neg (not_not.mpr same), if_pos same, ← held]
    · rw [if_pos same, if_neg same]
  unfold State.applyCompensation
  rw [anchored]
  by_cases same : c.rb = s.comp.rb ∧ c.alpha = s.comp.alpha
  · rw [if_pos same]
    exact if_neg (by simp [same])
  · rw [if_neg same]
    exact if_pos (not_and_or.mp same)

section
variable {q : SetCompensationReq} {s : State} (listed : q.unlisted = 0)

include listed

/-- A source or a policy that names nothing is refused with RANGE (R48, R173). -/
theorem setCompensation_range (h : named indexSourceOf q.source = none ∨ named policyOf q.policy = none) :
    setCompensation q s = refuse .range s := by
  rw [setCompensation, if_neg (not_not.mpr listed)]
  split
  · next hs hp => simp [hs, hp] at h
  · rfl

theorem setCompensation_named {source : Option IndexSource} {policy : Option Policy}
    (hs : named indexSourceOf q.source = some source) (hp : named policyOf q.policy = some policy) :
    setCompensation q s =
      if source = some .tracker ∧ s.tracker = none then refuse .conflict s
      else (s.applyCompensation (q.apply source policy s.comp), accepted q.clamps) := by
  simp only [setCompensation, listed, hs, hp, ne_eq, not_true_eq_false, if_false]

end

/-! ### PUT_ENVIRONMENT (R54, R55) -/

/-- A field of the environment record after a request: replaced by the clamped value, or held (R54). -/
theorem PutEnvironmentReq.apply_eq (q : PutEnvironmentReq) (e : Env) :
    q.apply e = ⟨(q.tAir.map fun b => some (max (-10000) (min 50000 b.toInt))).getD e.tAir,
      (q.tScale.map fun b => some (max (-10000) (min 50000 b.toInt))).getD e.tScale,
      (q.p.map fun b => some (max 50000 (min 120000 b.toInt))).getD e.p,
      (q.e.map fun b => some (max 0 (min 10000 b.toInt))).getD e.e⟩ := by
  unfold PutEnvironmentReq.apply
  congr 1
  · cases q.tAir with
    | none => rfl
    | some _ => exact congrArg some (clamp_eq (by decide) _)
  · cases q.tScale with
    | none => rfl
    | some _ => exact congrArg some (clamp_eq (by decide) _)
  · cases q.p with
    | none => rfl
    | some _ => exact congrArg some (clamp_eq (by decide) _)
  · cases q.e with
    | none => rfl
    | some _ => exact congrArg some (clamp_eq (by decide) _)

theorem PutEnvironmentReq.clamped_eq (q : PutEnvironmentReq) :
    q.clamped = ((q.tAir.map fun b => decide (b.toInt < -10000 ∨ 50000 < b.toInt)).getD false,
      (q.tScale.map fun b => decide (b.toInt < -10000 ∨ 50000 < b.toInt)).getD false,
      (q.p.map fun b => decide (b.toInt < 50000 ∨ 120000 < b.toInt)).getD false,
      (q.e.map fun b => decide (b.toInt < 0 ∨ 10000 < b.toInt)).getD false) := by
  simp only [PutEnvironmentReq.clamped, outside_signed]

/-- The part with the record that a PUT_ENVIRONMENT leaves: a pressure or an air temperature restarts the age (R54). -/
def State.putEnv (s : State) (q : PutEnvironmentReq) : State :=
  { s with comp := { s.comp with
      env := q.apply s.comp.env, age := if q.p = none ∧ q.tAir = none then s.comp.age else 0 } }

theorem putEnvironment_eq {q : PutEnvironmentReq} {s : State} (listed : q.unlisted = 0) :
    putEnvironment q s = (if q.clamps then
        (s.putEnv q).raise (.envClamp q.clamped.1 q.clamped.2.1 q.clamped.2.2.1 q.clamped.2.2.2)
      else s.putEnv q, accepted q.clamps) := by
  have age : (if q.p.isSome ∨ q.tAir.isSome then 0 else s.comp.age) =
      if q.p = none ∧ q.tAir = none then s.comp.age else 0 := by
    cases q.p <;> cases q.tAir <;> rfl
  rw [putEnvironment, if_neg (not_not.mpr listed), age]
  rfl

theorem PutEnvironmentReq.clamps_iff {q : PutEnvironmentReq} : q.clamps = false ↔
    q.clamped.1 = false ∧ q.clamped.2.1 = false ∧ q.clamped.2.2.1 = false ∧ q.clamped.2.2.2 = false := by
  simp only [PutEnvironmentReq.clamps, Bool.or_eq_false_iff, and_assoc]

/-- Settles O34: the refusals of SET_COMPENSATION and the settings that it holds; the record of PUT_ENVIRONMENT and its
raising. -/
theorem compensationTakesItsSettings : Obligations.CompensationTakesItsSettings := by
  intro s c put32 put16 beyond32 beyond16
  refine ⟨fun q awaited listed => ?_, fun q awaited listed => ?_⟩
  · have run := complete_of_awaits awaited (setCompensation q)
    refine ⟨fun bad => run.trans ?_, fun source policy hs hp => ?_⟩
    · rw [setCompensation_range listed bad]
      rfl
    · rw [setCompensation_named listed hs hp] at run
      refine ⟨fun asked none => run.trans ?_, fun held => run.trans ?_⟩
      · rw [if_pos ⟨asked, none⟩]
        rfl
      · rw [if_neg fun h => held h.1 h.2, accepted_eq, SetCompensationReq.clamps_eq,
          State.applyCompensation_eq _ (q.apply source policy s.comp) rfl,
          SetCompensationReq.apply_eq]
        rfl
  · intro beyond store clampedAir clampedScale clampedP clampedE s'
    have run := complete_of_awaits awaited (putEnvironment q)
    rw [putEnvironment_eq listed] at run
    refine run.trans ?_
    have put : s.putEnv q = s' := by rw [State.putEnv, PutEnvironmentReq.apply_eq]
    have clamped : q.clamped = (clampedAir, clampedScale, clampedP, clampedE) := PutEnvironmentReq.clamped_eq q
    have clamps_iff := PutEnvironmentReq.clamps_iff (q := q)
    rw [clamped] at clamps_iff
    rw [put, clamped]
    cases clamps : q.clamps with
    | false =>
      rw [if_pos (clamps_iff.mp clamps)]
      rfl
    | true =>
      rw [if_neg (mt clamps_iff.mpr (by simp [clamps]))]
      rfl

end Sys2Proof.Machine

namespace Sys2Proof.Machine

/-! ### The stages of a position (R63, R65 to R69) -/

theorem lengthFactor_eq {lambda passK nu : ℤ} (hk : 0 < passK) (hn : 0 < 1000000000 + nu) :
    lengthFactor lambda passK nu = ⌊(lambda * 131072 * 10 ^ 6 : ℚ) / (passK * (10 ^ 9 + nu)) + 1 / 2⌋ := by
  rw [lengthFactor, divNearest_eq_floor _ (mul_pos hk hn)]
  norm_num

theorem blend_eq (rb l0 l1 : ℤ) : blend rb l0 l1 = l0 + ⌊(((l1 - l0) * rb : ℤ) : ℚ) / 65536 + 1 / 2⌋ := by
  rw [blend, divNearest_eq_floor _ (by norm_num)]
  norm_num

theorem thermal_some (alpha t p : ℤ) :
    thermal alpha (some t) p = p - ⌊((p * alpha * (t - 20000) : ℤ) : ℚ) / 10 ^ 12 + 1 / 2⌋ := by
  rw [thermal, divNearest_eq_floor _ (by norm_num)]
  norm_num

theorem saturate_eq (p : ℤ) : saturate p = max (-(2 ^ 47 - 1)) (min (2 ^ 47 - 1) p) := clamp_eq (by decide) p

/-! ### The eighth-counts of a sample (R16, R64) -/

theorem Channel.qAt_of_off {ch : Channel} (off : ch.state = .off) (k : ℕ) : ch.qAt k = ch.q := if_pos off

theorem Channel.qAt_of_on {ch : Channel} (on : ch.state ≠ .off) (k : ℕ) :
    ch.qAt k = ((ch.entry k).map (·.q)).getD ch.q := by
  rw [Channel.qAt, if_neg on]
  cases ch.entry k <;> rfl

theorem Channel.eighthAt_of_off {ch : Channel} (off : ch.state = .off) (k : ℕ) :
    ch.eighthAt k = 8 * ch.q - ch.origin := by
  rw [Channel.eighthAt, Channel.qAt_of_off off, eighth]

theorem State.partnerEighth_alone {s : State} (alone : s.partner = none) (k : ℕ) : s.partnerEighth k = 0 := by
  rw [State.partnerEighth, alone]

theorem State.partnerEighth_of_partner {s : State} {f : Fin 4} (held : s.partner = some f) (k : ℕ) :
    s.partnerEighth k = (s.chan f).eighthAt k := by
  rw [State.partnerEighth, held]

/-- A sample's entry is the newest of its history, and the only one of its number (R15). -/
theorem Channel.entered_entry {ch : Channel} {k : ℕ} (older : ∀ e ∈ ch.history, e.k < k) :
    (ch.entered k).entry k = some ⟨k, ch.q, ch.state.name, ch.referenced⟩ := by
  have kept : ∀ e ∈ (if ch.history.length < 33 then ch.history else ch.history.drop 1), e.k < k := fun e he => by
    split at he
    · exact older e he
    · exact older e (List.mem_of_mem_drop he)
  have past : (if ch.history.length < 33 then ch.history else ch.history.drop 1).find? (fun e => decide (e.k = k)) = none :=
    List.find?_eq_none.mpr fun e he => by simpa using (kept e he).ne
  rw [Channel.entry, Channel.entered, pushHistory_eq, List.find?_append, past]
  simp

theorem Channel.entered_qAt {ch : Channel} {k : ℕ} (older : ∀ e ∈ ch.history, e.k < k) :
    (ch.entered k).qAt k = ch.q := by
  by_cases off : ch.state = .off
  · exact Channel.qAt_of_off (ch := ch.entered k) off k
  · rw [Channel.qAt_of_on (ch := ch.entered k) off, Channel.entered_entry older]
    rfl

/-! ### What a count leaves of a channel's numbers (R3, R15, R18) -/

/-- What stages 1 to 6 leave of a channel, before the sample is entered (R10). -/
def Channel.stepped (ch : Channel) (x : SampleIn) : Channel :=
  ((ch.watched (ch.point x)).countStep (ch.point x)).ch

theorem Channel.count_entered (ch : Channel) (x : SampleIn) : (ch.count x).ch = (ch.stepped x).entered x.k :=
  congrArg Counted.ch (ch.count_eq x)

theorem Channel.CountsTo.history {ch ch' : Channel} (h : ch.CountsTo ch') : ch'.history = ch.history := by
  rw [show ch' = _ from h]

theorem Channel.CountsTo.first {ch ch' : Channel} (h : ch.CountsTo ch') : ch'.first = ch.first := by
  rw [show ch' = _ from h]

theorem Channel.stepped_history (ch : Channel) (x : SampleIn) : (ch.stepped x).history = ch.history := by
  rw [Channel.stepped, (Channel.countsTo_countStep _ _).history, ch.watched_history]

theorem Channel.count_first (ch : Channel) (x : SampleIn) : (ch.count x).ch.first = some (ch.first.getD x.k) := by
  have first : (ch.stepped x).first = ch.first := by
    rw [Channel.stepped, (Channel.countsTo_countStep _ _).first, ch.watched_eq]
  rw [Channel.count_entered, Channel.entered, first]

theorem Channel.count_next (ch : Channel) (x : SampleIn) : (ch.count x).ch.next = x.k + 1 := by
  rw [Channel.count_entered, Channel.entered]

/-- The count held after a sample is the one that the history gives for it (R15, R64). -/
theorem Channel.count_qAt {ch : Channel} {x : SampleIn} (older : ∀ e ∈ ch.history, e.k < x.k) :
    (ch.count x).ch.qAt x.k = (ch.count x).ch.q := by
  rw [Channel.count_entered]
  exact Channel.entered_qAt (by rwa [ch.stepped_history])

/-! ### A sample switches no channel OFF (R28) -/

theorem Channel.unwrap_on (ch : Channel) (phi : ℤ) : (ch.unwrap phi).ch.state ≠ .off := by
  obtain ⟨-, h⟩ | ⟨-, -, h⟩ | ⟨-, -, h⟩ := ch.unwrap_cases phi rfl rfl <;> rw [h] <;> exact nofun

theorem Channel.settleStep_on {ch : Channel} (on : ch.state ≠ .off) (p : Point) : (ch.settleStep p).ch.state ≠ .off := by
  unfold Channel.settleStep
  split
  · exact Channel.unwrap_on _ _
  · exact on

theorem Channel.extrapolate_on (ch : Channel) (a : CoastAnchor) (phi : ℤ) : (ch.extrapolate a phi).ch.state ≠ .off := by
  unfold Channel.extrapolate
  split <;> exact nofun

theorem Channel.bridgeStep_on (ch : Channel) (a : CoastAnchor) (phi : ℤ) : (ch.bridgeStep a phi).ch.state ≠ .off := by
  unfold Channel.bridgeStep
  dsimp only
  split
  · exact nofun
  · split <;> exact nofun

theorem Channel.coastStep_on (ch : Channel) (a : CoastAnchor) (p : Point) : (ch.coastStep a p).ch.state ≠ .off := by
  unfold Channel.coastStep
  split
  · exact ch.bridgeStep_on _ _
  · split
    · exact nofun
    · exact ch.extrapolate_on _ _

theorem Channel.trackStep_on (ch : Channel) (p : Point) : (ch.trackStep p).ch.state ≠ .off := by
  unfold Channel.trackStep
  split
  · exact ch.extrapolate_on _ _
  · exact ch.unwrap_on _

theorem Channel.countStep_on {ch : Channel} (on : ch.state ≠ .off) (p : Point) : (ch.countStep p).ch.state ≠ .off := by
  unfold Channel.countStep
  split
  · next off => exact absurd off on
  · exact Channel.settleStep_on on p
  · exact ch.trackStep_on p
  · exact ch.coastStep_on _ p
  · exact Channel.settleStep_on on p

theorem Channel.count_on {ch : Channel} (on : ch.state ≠ .off) (x : SampleIn) : (ch.count x).ch.state ≠ .off := by
  rw [Channel.count_entered]
  exact Channel.countStep_on (by rwa [ch.watched_state]) _

/-! ### The tracks at a counted sample (R64, R113) -/

/-- The pass, the engine and the attention unit move no more of the tracks than the sample that the aligned one reaches next. -/
theorem State.Works.tracks {s t : State} (h : s.Works t) :
    t.tracks = { s.tracks with alignedNext := t.tracks.alignedNext } := by
  induction h with
  | trans _ _ ih ih' => rw [ih', ih]
  | passHoldStep s => rw [State.passHoldStep_tracks]
  | _ => rfl

theorem State.SameSettings.role {s t : State} (h : s.SameSettings t) (c : Fin 4) : (t.chan c).role = (s.chan c).role :=
  (h.channels c).1

theorem State.SameSettings.partner {s t : State} (h : s.SameSettings t) : t.partner = s.partner := by
  simp only [State.partner, State.holder, h.role]

theorem State.SameSettings.lag {s t : State} (h : s.SameSettings t) : t.eng.lag = s.eng.lag := by
  obtain ⟨-, -, delay, -⟩ := h.detector
  rw [Engine.lag, delay, Engine.lag]

theorem State.partner_role {s : State} {f : Fin 4} (h : s.partner = some f) : (s.chan f).role = .partner := by
  simpa using List.find?_some h

theorem State.role_of_position {s : State} {x : SampleIn} {f : Fin 4} (measure : (s.chan 0).role = .measure)
    (held : s.partner = some f) (h : x.ch = 0 ∨ x.ch = f) :
    (s.chan x.ch).role = .measure ∨ (s.chan x.ch).role = .partner := by
  obtain h | h := h <;> rw [h]
  · exact .inl measure
  · exact .inr (State.partner_role held)

theorem State.countedBoth_alone {s : State} (h : s.partner = none) : s.countedBoth = (s.chan 0).next := by
  rw [State.countedBoth, h]
  rfl

theorem State.countedBoth_of_partner {s : State} {f : Fin 4} (h : s.partner = some f) :
    s.countedBoth = if (s.chan f).state = .off then (s.chan 0).next
      else min (s.chan 0).next (max (s.chan f).onAt (s.chan f).next) := by
  rw [State.countedBoth, h]
  rfl

/-- MEASURE, not OFF, has counted a sample of its present run, with PARTNER, that is new to a real-time track that has reached
`reached` (R64). -/
def State.Forms (s : State) (reached : ℕ) : Prop :=
  (s.chan 0).state ≠ .off ∧ reached < s.countedBoth ∧ ∃ first, (s.chan 0).first = some first ∧ first < s.countedBoth

theorem State.forms_iff {s : State} {reached : ℕ} : s.Forms reached ↔
    s.measure.state ≠ .off ∧ reached < s.countedBoth ∧ s.measure.inRun (s.countedBoth - 1) = true := by
  rw [Channel.inRun_iff]
  refine and_congr_right fun _ => and_congr_right fun new => exists_congr fun first => and_congr_right fun _ => ?_
  omega

theorem State.advanceTracks_of_forms {s : State} (h : s.Forms s.tracks.rtCount) :
    s.advanceTracks.tracks.rtCount = s.countedBoth ∧
      s.advanceTracks.tracks.rt = some (s.trackPosition (s.countedBoth - 1)) := by
  rw [State.advanceTracks, State.formRealTime, if_pos (State.forms_iff.mp h), State.advanceAligned]
  split <;> exact ⟨rfl, rfl⟩

theorem State.advanceTracks_of_not_forms {s : State} (h : ¬s.Forms s.tracks.rtCount) :
    s.advanceTracks.tracks.rtCount = s.tracks.rtCount ∧ s.advanceTracks.tracks.rt = s.tracks.rt := by
  rw [State.advanceTracks, State.formRealTime, if_neg (mt State.forms_iff.mpr h), State.advanceAligned]
  split <;> exact ⟨rfl, rfl⟩

theorem State.advanceTracks_alignedLimit {s : State} (on : (s.chan 0).state ≠ .off) :
    s.advanceTracks.tracks.alignedLimit = max s.tracks.alignedLimit (s.countedBoth - s.eng.lag) := by
  have on' : s.formRealTime.measure.state ≠ .off := by
    obtain h | ⟨-, h⟩ := s.formRealTime_cases <;> (rw [h]; exact on)
  rw [State.advanceTracks, State.advanceAligned, if_pos on']
  obtain h | ⟨-, h⟩ := s.formRealTime_cases
  · rw [h]
  · rw [h]
    rfl

/-- A sample of MEASURE or PARTNER makes both tracks follow it: the tracks advance from a state that differs from the one it
leaves in the tracks alone, and these are as they were but for the aligned sample reached next. -/
theorem State.countSample_advances {s : State} {x : SampleIn} (may : s.mayCount x = true)
    (role : (s.chan x.ch).role = .measure ∨ (s.chan x.ch).role = .partner) :
    ∃ n, (s.countSample x).tracks =
      { s.countSample x with tracks := { s.tracks with alignedNext := n } }.advanceTracks.tracks := by
  set u := s.dueFirst x.ch
  set w := (u.toReport x).reportCount x.ch ((u.chan x.ch).count x)
  have counted : s.countSample x = w.followTracks x.ch := by
    rw [State.countSample_of_mayCount may, State.countNow_eq]
  have framed : s.countSample x = { w with tracks := (s.countSample x).tracks } := by
    rw [counted, ← State.followTracks_frame]
  have due : u.tracks = { s.tracks with alignedNext := u.tracks.alignedNext } := (s.works_dueFirst x.ch).tracks
  have begun : (u.counting x).tracks = { u.tracks with alignedNext := (u.counting x).tracks.alignedNext } := by
    rw [State.counting, (State.works_startRun _ _ _ _).tracks, State.judgeAnchor_eq]
    rfl
  have same : w.tracks = { s.tracks with alignedNext := w.tracks.alignedNext } := by
    rw [(u.works_reported x).tracks, begun, due]
  have inPosition : (w.chan x.ch).role.inPosition = true := by
    have kept := (s.sustains_countSample x).settings.role x.ch
    rw [framed] at kept
    exact Role.inPosition_iff.mpr ((show (w.chan x.ch).role = _ from kept) ▸ role)
  refine ⟨w.tracks.alignedNext, ?_⟩
  rw [← same, framed, counted, State.followTracks, if_pos inPosition]

/-- What a counted sample of MEASURE or PARTNER makes of the two tracks, by the part that it leaves (R64, R113). -/
structure State.Follows (s t : State) : Prop where
  formed : t.Forms s.tracks.rtCount →
    t.tracks.rtCount = t.countedBoth ∧ t.tracks.rt = some (t.trackPosition (t.countedBoth - 1))
  held : ¬t.Forms s.tracks.rtCount → t.tracks.rtCount = s.tracks.rtCount ∧ t.tracks.rt = s.tracks.rt
  due : (t.chan 0).state ≠ .off → t.tracks.alignedLimit = max s.tracks.alignedLimit (t.countedBoth - t.eng.lag)

theorem State.countSample_follows {s : State} {x : SampleIn} (may : s.mayCount x = true)
    (role : (s.chan x.ch).role = .measure ∨ (s.chan x.ch).role = .partner) : s.Follows (s.countSample x) := by
  obtain ⟨n, h⟩ := State.countSample_advances may role
  set v : State := { s.countSample x with tracks := { s.tracks with alignedNext := n } }
  constructor <;> rw [h]
  · exact State.advanceTracks_of_forms (s := v)
  · exact State.advanceTracks_of_not_forms (s := v)
  · exact State.advanceTracks_alignedLimit (s := v)

/-- The channel that counts a sample is left by the count of one that has its state, its run and its history. -/
theorem State.countSample_counts {s : State} {x : SampleIn} (may : s.mayCount x = true) {c : Fin 4} (h : x.ch = c) :
    ∃ ch : Channel, (s.countSample x).chan c = (ch.count x).ch ∧ ch.state = (s.chan c).state ∧
      ch.first = (s.chan c).first ∧ ch.history = (s.chan c).history := by
  subst h
  refine ⟨(s.dueFirst x.ch).chan x.ch, by rw [State.countSample_of_mayCount may, State.countNow_chan_self], ?_⟩
  rw [(s.homing_dueFirst x.ch).origins x.ch]
  exact ⟨rfl, rfl, rfl⟩

theorem State.countSample_on {s : State} {x : SampleIn} (may : s.mayCount x = true) {c : Fin 4} (h : x.ch = c) :
    ((s.countSample x).chan c).state ≠ .off := by
  obtain ⟨ch, counted, state, -, -⟩ := State.countSample_counts may h
  obtain ⟨-, -, -, on, -⟩ := State.mayCount_iff.mp may
  rw [counted]
  exact Channel.count_on (by rwa [state, ← h]) x

/-- A sample that MEASURE counts alone is new to a track that has not passed it, and is where its position is formed (R64). -/
theorem State.countSample_alone {s : State} {x : SampleIn} (may : s.mayCount x = true) (measure : x.ch = 0)
    (alone : s.partner = none) (sound : (s.chan 0).Sound) (behind : s.tracks.rtCount ≤ x.k) :
    let t := s.countSample x
    t.Forms s.tracks.rtCount ∧ t.countedBoth = x.k + 1 ∧
      t.trackPosition x.k = t.position (8 * (t.chan 0).q - (t.chan 0).origin) 0 := by
  intro t
  obtain ⟨ch, counted, -, begun, held⟩ := State.countSample_counts may measure
  have next : (s.chan 0).next ≤ x.k := measure ▸ Channel.next_le_of_mayCount (State.mayCount_channel may)
  have alone' : t.partner = none := (s.sustains_countSample x).settings.partner.trans alone
  have both : t.countedBoth = x.k + 1 := by rw [State.countedBoth_alone alone', counted, Channel.count_next]
  have first : (s.chan 0).first.getD x.k ≤ x.k := by
    cases run : (s.chan 0).first with
    | none => exact le_rfl
    | some k => exact (sound.run k run).le.trans next
  have older : ∀ e ∈ ch.history, e.k < x.k := fun e he =>
    (sound.history.2 e (held ▸ he)).1.trans_le next
  refine ⟨⟨State.countSample_on may measure, by omega, ch.first.getD x.k, by rw [counted, Channel.count_first], ?_⟩, both,
    ?_⟩
  · rw [begun, both]
    omega
  · rw [State.trackPosition, State.partnerEighth_alone alone', State.measure, counted, Channel.eighthAt,
      Channel.count_qAt older, eighth]

/-- A position from its stages: the corrected lengths, the blend with a PARTNER, the scale temperature applied, the range. -/
theorem State.position_eq (s : State) (eM eP : ℤ) :
    s.position eM eP = saturate (thermal s.comp.alpha s.comp.tApplied
      (s.partner.elim (s.corrected 0 eM) fun f => blend s.comp.rb (s.corrected 0 eM) (s.corrected f eP))) := by
  unfold State.position
  cases s.partner <;> rfl

/-- Settles O33: the stages rounded each for itself, and the tracks by the part that a counted sample leaves. -/
theorem positionFollowsItsStages : Obligations.PositionFollowsItsStages := by
  refine ⟨fun _ _ _ => lengthFactor_eq, fun s eM eP => ?_, fun x s may measure roleM alone sound behind => ?_,
    fun x s f may roleM held from' => ?_, fun ch k => ?_, fun s k f held off => ?_, fun x s may roleM => ?_⟩
  · intro c length p p20
    rw [State.position_eq, saturate_eq]
    have blended : s.partner.elim (s.corrected 0 eM) (fun f => blend c.rb (s.corrected 0 eM) (s.corrected f eP)) = p := by
      simp only [p, length, State.corrected_eq, blend_eq]
      cases s.partner <;> rfl
    rw [blended]
    have normalised : thermal c.alpha c.tApplied p = p20 := by
      simp only [p20]
      cases c.tApplied with
      | none => rfl
      | some t => exact thermal_some _ _ _
    rw [normalised]
  · have follows := State.countSample_follows may (.inl (measure ▸ roleM))
    obtain ⟨forms, both, position⟩ := State.countSample_alone may measure alone sound behind
    obtain ⟨count, rt⟩ := follows.formed forms
    refine ⟨s.countSample x, rfl, count.trans both, ?_⟩
    rw [rt, both, Nat.add_sub_cancel, position]
  · have follows := State.countSample_follows may (State.role_of_position roleM held from')
    have held' := (s.sustains_countSample x).settings.partner.trans held
    refine ⟨s.countSample x, rfl, ?_⟩
    rw [← State.countedBoth_of_partner held']
    exact ⟨follows.formed, follows.held⟩
  · rw [Channel.eighthAt, eighth]
    by_cases off : ch.state = .off
    · rw [Channel.qAt_of_off off, if_pos off]
    · rw [Channel.qAt_of_on off, if_neg off]
  · rw [State.trackPosition, State.partnerEighth_of_partner held, Channel.eighthAt_of_off off, State.measure]
  · intro lag
    set t := s.countSample x
    have settings : s.SameSettings t := (s.sustains_countSample x).settings
    have lag_eq : t.eng.lag = lag := settings.lag
    refine ⟨t, rfl, fun measure alone j reached => ?_, fun f held from' on j reached => ?_⟩
    · have follows := State.countSample_follows may (.inl (measure ▸ roleM))
      rw [follows.due (State.countSample_on may measure), lag_eq, State.countedBoth_alone (settings.partner.trans alone)]
      omega
    · have follows := State.countSample_follows may (State.role_of_position roleM held from')
      rw [follows.due on, lag_eq, State.countedBoth_of_partner (settings.partner.trans held)]
      split
      · next off => simp only [off, true_or, and_true]; omega
      · next counts => simp only [counts, false_or]; omega

end Sys2Proof.Machine

namespace Sys2Proof.Machine

/-! ### Records and their counters (R71, R73 to R77, R132) -/

theorem LineRec.met_iff {r : LineRec} {d : Dir} : r.met d = true ↔ r.quota d ≠ 0 ∧ (r.acc d).n = r.quota d := by
  simp [LineRec.met]

theorem LineRec.eligible_iff {r : LineRec} {d : Dir} :
    r.eligible d = true ↔ r.state = .armed ∧ (r.quota d ≠ 0 → (r.acc d).n ≠ r.quota d) := by
  simp [LineRec.eligible, LineRec.met, or_iff_not_imp_left]

theorem LineRec.finished_iff {r : LineRec} :
    r.finished = true ↔ (r.quotaF ≠ 0 ∨ r.quotaB ≠ 0) ∧ (r.quotaF = 0 ∨ r.accF.n = r.quotaF) ∧
      (r.quotaB = 0 ∨ r.accB.n = r.quotaB) := by
  have open' : ∀ quota n : Nat, quota = 0 ∨ (quota ≠ 0 ∧ n = quota) ↔ quota = 0 ∨ n = quota := by omega
  simp only [LineRec.finished, Bool.and_eq_true, Bool.or_eq_true, decide_eq_true_eq, LineRec.met_iff, LineRec.quota,
    LineRec.acc, open', and_assoc]

/-- What `LineRec.Sound` says of a record's counters and quotas, its state apart. -/
structure LineRec.Counted (r : LineRec) : Prop where
  accF : r.accF.Sound
  accB : r.accB.Sound
  quotaF : r.quotaF ≤ 65535 ∧ (r.quotaF ≠ 0 → r.accF.n ≤ r.quotaF)
  quotaB : r.quotaB ≤ 65535 ∧ (r.quotaB ≠ 0 → r.accB.n ≤ r.quotaB)
  misses : r.misses ≤ 15
  rejects : r.rejects.miss ≤ 255 ∧ r.rejects.double ≤ 255 ∧ r.rejects.reversal ≤ 255 ∧ r.rejects.width ≤ 255 ∧
    r.rejects.coast ≤ 255 ∧ r.rejects.interrupted ≤ 255

theorem LineRec.Sound.counted {r : LineRec} (h : r.Sound) : r.Counted := { h with }

/-- A record PAUSED or SUSPECT owes nothing to its quotas (R74). -/
theorem LineRec.Counted.sound {r : LineRec} (h : r.Counted) (complete : r.state ≠ .complete) (armed : r.state ≠ .armed) :
    r.Sound := { h with complete := fun e => absurd e complete, armed := fun e => absurd e armed }

/-- A settled record is COMPLETE or ARMED as its quotas are met (R74). -/
theorem LineRec.Counted.settled {r : LineRec} (h : r.Counted) : r.settled.Sound := by
  have state : r.settled.state = if r.finished = true then .complete else .armed := rfl
  refine { h with complete := fun e => ?_, armed := fun e => ?_ } <;> rw [state] at e <;> split at e
  · assumption
  · cases e
  · cases e
  · exact Bool.eq_false_iff.mpr ‹_›

theorem Acc.empty_sound : Acc.empty.Sound where
  count := Nat.zero_le _
  whenEmpty _ := ⟨rfl, rfl, rfl⟩
  extremes h := absurd rfl h
  squares := by decide
  spread := by decide

/-- One more deviation within a window's half width (R132, R133). -/
theorem Acc.Sound.add {a : Acc} (h : a.Sound) (room : a.n < 65535) {x : Int} (hx : -50000000 ≤ x ∧ x ≤ 50000000) :
    (a.add x).Sound := by
  obtain ⟨lo, hi⟩ := hx
  have square : 0 ≤ x * x ∧ x * x ≤ 2500000000000000 := ⟨mul_self_nonneg x, by nlinarith⟩
  obtain ⟨sq0, sq1⟩ := h.squares
  have number : ((a.add x).n : Int) = a.n + 1 := by simp [Acc.add]
  refine ⟨room, fun e => by simp [Acc.add] at e, fun _ => ?_, ?_, ?_⟩
  · rw [number]
    by_cases none : a.n = 0
    · obtain ⟨sum, -, ext⟩ := h.whenEmpty none
      refine ⟨⟨x, x⟩, by simp [Acc.add, ext], lo, le_rfl, hi, ?_, ?_⟩ <;> simp [Acc.add, none, sum]
    · obtain ⟨m, ext, hmin, hmid, hmax, hlow, hhigh⟩ := h.extremes none
      refine ⟨⟨if x < m.min then x else m.min, if m.max < x then x else m.max⟩, by simp [Acc.add, ext],
        ?_, ?_, ?_, ?_, ?_⟩
      · dsimp only; split <;> omega
      · dsimp only; split <;> split <;> omega
      · dsimp only; split <;> omega
      · simp only [Acc.add]
        split <;> nlinarith
      · simp only [Acc.add]
        split <;> nlinarith
  · rw [number]
    simp only [Acc.add]
    constructor <;> linarith
  · rw [number]
    simp only [Acc.add]
    have spread := h.spread
    by_cases none : a.n = 0
    · obtain ⟨sum, sumSq, -⟩ := h.whenEmpty none
      simp [none, sum, sumSq]
    · have positive : (0 : Int) < a.n := by omega
      -- n (n x² - 2 S x + Q) = (n x - S)² + (n Q - S²)
      have cross : 0 ≤ a.n * (a.n * (x * x) - 2 * (a.sum * x) + a.sumSq) := by
        nlinarith [mul_self_nonneg (a.n * x - a.sum)]
      have := nonneg_of_mul_nonneg_right cross positive
      linarith

theorem LineRec.Sound.tally {r : LineRec} (h : r.Sound) (missLimit : Int) (reason : Reject) :
    (r.tally missLimit reason).Sound := by
  obtain ⟨h1, h2, h3, h4, h5, h6⟩ := h.rejects
  have counted : { r with rejects := r.rejects.add reason }.Counted :=
    { h.counted with
      rejects := by
        cases reason
        · exact ⟨satInc_le _ _, h2, h3, h4, h5, h6⟩
        · exact ⟨h1, satInc_le _ _, h3, h4, h5, h6⟩
        · exact ⟨h1, h2, satInc_le _ _, h4, h5, h6⟩
        · exact ⟨h1, h2, h3, satInc_le _ _, h5, h6⟩
        · exact ⟨h1, h2, h3, h4, satInc_le _ _, h6⟩
        · exact ⟨h1, h2, h3, h4, h5, satInc_le _ _⟩ }
  unfold LineRec.tally
  dsimp only
  split
  · split
    · exact LineRec.Counted.sound { counted with misses := satInc_le _ _ } (by simp) (by simp)
    · exact { counted with misses := satInc_le _ _, complete := h.complete, armed := h.armed }
  · exact { counted with complete := h.complete, armed := h.armed }

/-- A commit of a deviation within the widest window into an eligible record (R77, R133, R134). -/
theorem LineRec.Sound.commit {r : LineRec} (h : r.Sound) {d : Dir} (eligible : r.eligible d = true) {dev : Int}
    (range : -50000000 ≤ dev ∧ dev ≤ 50000000) (pass : Nat) : (r.commit d dev pass).Sound := by
  obtain ⟨armed, unmet⟩ := LineRec.eligible_iff.mp eligible
  unfold LineRec.commit
  dsimp only
  split
  · exact h
  · next room =>
    have counted : { r.setAcc d ((r.acc d).add dev) with last := some ⟨dev, pass, d⟩, misses := 0 }.Counted := by
      cases d with
      | fwd =>
        refine { h.counted with
          accF := h.accF.add (not_le.mp room) range
          quotaF := ⟨h.quotaF.1, fun quota => ?_⟩
          misses := Nat.zero_le _ }
        exact Nat.succ_le_of_lt (lt_of_le_of_ne (h.quotaF.2 quota) (unmet quota))
      | bwd =>
        refine { h.counted with
          accB := h.accB.add (not_le.mp room) range
          quotaB := ⟨h.quotaB.1, fun quota => ?_⟩
          misses := Nat.zero_le _ }
        exact Nat.succ_le_of_lt (lt_of_le_of_ne (h.quotaB.2 quota) (unmet quota))
    have state : (r.setAcc d ((r.acc d).add dev)).state = .armed := by
      cases d <;> exact armed
    rw [if_pos state]
    exact counted.settled

/-- A record without a count is not finished: a quota of 0 is no quota (R74). -/
theorem LineRec.finished_eq_false_of_empty {r : LineRec} (hF : r.accF.n = 0) (hB : r.accB.n = 0) : r.finished = false := by
  rw [Bool.eq_false_iff, ne_eq, LineRec.finished_iff]
  omega

theorem LineRec.Sound.cleared {r : LineRec} (h : r.Sound) : r.cleared.Sound where
  accF := Acc.empty_sound
  accB := Acc.empty_sound
  quotaF := ⟨h.quotaF.1, fun _ => Nat.zero_le _⟩
  quotaB := ⟨h.quotaB.1, fun _ => Nat.zero_le _⟩
  complete e := by
    cases hs : r.state <;> simp [LineRec.cleared, hs] at e
  armed _ := LineRec.finished_eq_false_of_empty rfl rfl
  misses := Nat.zero_le _
  rejects := by simp [LineRec.cleared, Rejects.zero]

/-- An eligible record stays eligible as its results are cleared. -/
theorem LineRec.cleared_eligible {r : LineRec} {d : Dir} (h : r.eligible d = true) : r.cleared.eligible d = true := by
  obtain ⟨armed, -⟩ := LineRec.eligible_iff.mp h
  refine LineRec.eligible_iff.mpr ⟨by simp [LineRec.cleared, armed], fun quota => ?_⟩
  cases d <;> exact quota.symm

theorem LineRec.Sound.asked {r : LineRec} (h : r.Sound) (st : RecState) : (r.asked st).Sound := by
  unfold LineRec.asked LineRec.armed
  split
  · split
    · exact h
    · exact h.counted.settled
    · exact LineRec.Counted.settled { h.counted with misses := Nat.zero_le _ }
    · exact h
  · exact LineRec.Counted.sound { h.counted with } (by simp) (by simp)

theorem newRecord_sound (q : InsertReq) {st : RecState} (h : st ≠ .complete) : (newRecord q st).Sound where
  accF := Acc.empty_sound
  accB := Acc.empty_sound
  quotaF := ⟨Nat.le_of_lt_succ q.quotaF.isLt, fun _ => Nat.zero_le _⟩
  quotaB := ⟨Nat.le_of_lt_succ q.quotaB.isLt, fun _ => Nat.zero_le _⟩
  complete e := absurd e h
  armed _ := LineRec.finished_eq_false_of_empty rfl rfl
  misses := Nat.zero_le _
  rejects := by simp [newRecord, Rejects.zero]

end Sys2Proof.Machine

namespace Sys2Proof.Machine

/-! ### The line table: its order and its results (R71, R72, R81) -/

/-- A table in order with sound records (R72 to R77, R132). -/
structure Table.Sound (t : Table) : Prop where
  ordered : t.Ordered
  records : ∀ r ∈ t.records, r.Sound

/-- The record of a label is the only one of it (R72). -/
theorem Table.Ordered.eq_of_label {t : Table} (h : t.Ordered) {r r' : LineRec} (hr : r ∈ t.records) (hr' : r' ∈ t.records)
    (label : r.label = r'.label) : r = r' :=
  Option.some.inj (((Table.find_eq_some h.labels).mpr ⟨hr, label⟩).symm.trans
    ((Table.find_eq_some h.labels).mpr ⟨hr', rfl⟩))

/-- Of two records one lies below the other (R72). -/
theorem Table.Ordered.apart_of_ne {t : Table} (h : t.Ordered) {r r' : LineRec} (hr : r ∈ t.records) (hr' : r' ∈ t.records)
    (ne : r ≠ r') : r.n + r.w < r'.n - r'.w ∨ r'.n + r'.w < r.n - r.w := by
  have symm : Std.Symm fun x y : LineRec => x.n + x.w < y.n - y.w ∨ y.n + y.w < x.n - x.w := ⟨fun _ _ => Or.symm⟩
  exact (h.apart.imp fun apart => Or.inl apart : t.records.Pairwise
    fun x y => x.n + x.w < y.n - y.w ∨ y.n + y.w < x.n - x.w).forall hr hr' ne

theorem LineRec.contains_iff {r : LineRec} {p : Int} : r.contains p = true ↔ r.n - r.w ≤ p ∧ p ≤ r.n + r.w := by
  rw [LineRec.contains, Bool.and_eq_true, decide_eq_true_eq, decide_eq_true_eq]
  rfl

/-- The record found at a position is the one whose window contains it (R72). -/
theorem Table.at_eq_some {t : Table} (h : t.Ordered) {p : Int} {r : LineRec} :
    t.at p = some r ↔ r ∈ t.records ∧ r.n - r.w ≤ p ∧ p ≤ r.n + r.w := by
  have found : ∀ r, t.at p = some r → r ∈ t.records ∧ r.n - r.w ≤ p ∧ p ≤ r.n + r.w := fun r hr => by
    unfold Table.at at hr
    have inside := List.find?_some hr
    exact ⟨List.mem_of_find?_eq_some hr, LineRec.contains_iff.mp inside⟩
  refine ⟨found r, fun ⟨hr, inside⟩ => ?_⟩
  cases e : t.at p with
  | none =>
    unfold Table.at at e
    exact absurd (LineRec.contains_iff.mpr inside) (List.find?_eq_none.mp e r hr)
  | some r' =>
    obtain ⟨hr', inside'⟩ := found r' e
    by_contra ne
    have := h.apart_of_ne hr hr' fun same => ne (congrArg some same.symm)
    omega

/-- An operation on a record that leaves its label, its place and its quotas (R71). -/
def LeavesPlace (f : LineRec → LineRec) : Prop :=
  ∀ r, (f r).label = r.label ∧ (f r).n = r.n ∧ (f r).w = r.w ∧ (f r).quotaF = r.quotaF ∧ (f r).quotaB = r.quotaB

theorem Table.Ordered.map {t : Table} (h : t.Ordered) {f : LineRec → LineRec} (place : LeavesPlace f) :
    { t with records := t.records.map f }.Ordered where
  depth := by simpa using h.depth
  nominal := List.forall_mem_map.mpr fun r hr => by rw [(place r).2.1]; exact h.nominal r hr
  window := List.forall_mem_map.mpr fun r hr => by rw [(place r).2.2.1]; exact h.window r hr
  apart := List.pairwise_map.mpr <| h.apart.imp fun {r r'} apart => by
    obtain ⟨-, n, w, -⟩ := place r
    obtain ⟨-, n', w', -⟩ := place r'
    rw [n, w, n', w']
    exact apart
  labels := List.pairwise_map.mpr <| h.labels.imp fun {r r'} apart => by
    rw [(place r).1, (place r').1]
    exact apart

theorem LeavesPlace.onLabel {f : LineRec → LineRec} (place : LeavesPlace f) (label : Nat) :
    LeavesPlace fun r => if r.label = label then f r else r := fun r => by
  dsimp only
  split
  · exact place r
  · exact ⟨rfl, rfl, rfl, rfl, rfl⟩

/-- The records of a label changed in their results alone. -/
theorem Table.Sound.modify {t : Table} (h : t.Sound) {f : LineRec → LineRec} (place : LeavesPlace f) {label : Nat}
    (sound : ∀ r ∈ t.records, r.label = label → (f r).Sound) : (t.modify label f).Sound where
  ordered := h.ordered.map (place.onLabel label)
  records := List.forall_mem_map.mpr fun r hr => by
    split
    · exact sound r hr ‹_›
    · exact h.records r hr

theorem Table.Sound.tally {t : Table} (h : t.Sound) (label : Nat) (missLimit : Int) (reason : Reject) :
    (t.modify label (LineRec.tally missLimit reason)).Sound :=
  h.modify (LineRec.tally_place _ _) fun r hr _ => (h.records r hr).tally _ _

/-- The table without the record of a label (R82, R84). -/
def Table.without (t : Table) (label : Nat) : Table :=
  { t with records := t.records.filter fun x => decide (x.label ≠ label) }

theorem Table.mem_without {t : Table} {label : Nat} {r : LineRec} :
    r ∈ (t.without label).records ↔ r ∈ t.records ∧ r.label ≠ label := by
  simp [Table.without]

theorem Table.Ordered.without {t : Table} (h : t.Ordered) (label : Nat) : (t.without label).Ordered where
  depth := (List.length_filter_le _ _).trans h.depth
  nominal r hr := h.nominal r (Table.mem_without.mp hr).1
  window r hr := h.window r (Table.mem_without.mp hr).1
  apart := h.apart.filter _
  labels := h.labels.filter _

theorem windowsClash_iff {n w n' w' : Int} : windowsClash n w n' w' = true ↔ n - w ≤ n' + w' ∧ n' - w' ≤ n + w := by
  simp [windowsClash]

/-- A record's window is clear of every window of the table (R72). -/
def Table.ClearOf (t : Table) (n w : Int) : Prop := ∀ x ∈ t.records, ¬(n - w ≤ x.n + x.w ∧ x.n - x.w ≤ n + w)

/-- `insertByN` puts a record between those below it and those above it; where the table is in order and the record's window is
clear, the windows below and above are apart from its own (R81). -/
theorem Table.exists_place (t : Table) (r : LineRec) :
    ∃ before after, insertByN r t.records = before ++ r :: after ∧ t.records = before ++ after ∧
      (t.Ordered → 0 ≤ r.w → t.ClearOf r.n r.w →
        (∀ x ∈ before, x.n + x.w < r.n - r.w) ∧ ∀ x ∈ after, r.n + r.w < x.n - x.w) := by
  obtain ⟨before, after, inserted, parts, below, above⟩ := insertByN_split r t.records
  refine ⟨before, after, inserted, parts, fun h width clear => ?_⟩
  have held : ∀ x, x ∈ before ∨ x ∈ after →
      1000 ≤ x.w ∧ ¬(r.n - r.w ≤ x.n + x.w ∧ x.n - x.w ≤ r.n + r.w) := fun x hx =>
    have hx : x ∈ t.records := by rw [parts]; exact List.mem_append.mpr hx
    ⟨(h.window x hx).1, clear x hx⟩
  have higher : ∀ x ∈ after, r.n < x.n := by
    cases after with
    | nil => exact fun x hx => nomatch hx
    | cons y ys =>
      have first : r.n < y.n := above y rfl
      have apart : (y :: ys).Pairwise fun x x' => x.n + x.w < x'.n - x'.w :=
        (parts ▸ h.apart).sublist (List.sublist_append_right before (y :: ys))
      intro x hx
      obtain rfl | hx' := List.mem_cons.mp hx
      · exact first
      · have := (List.pairwise_cons.mp apart).1 x hx'
        have := held x (.inr hx)
        have := held y (.inr List.mem_cons_self)
        omega
  refine ⟨fun x hx => ?_, fun x hx => ?_⟩
  · have := held x (.inl hx)
    have := below x hx
    omega
  · have := held x (.inr hx)
    have := higher x hx
    omega

/-- A record whose window and label are free put in its place (R80, R81). -/
theorem Table.Ordered.insert {t : Table} (h : t.Ordered) {r : LineRec} (room : t.records.length < 2048)
    (nominal : -(2 ^ 46) ≤ r.n ∧ r.n ≤ 2 ^ 46) (window : 1000 ≤ r.w ∧ r.w ≤ 50000000) (clear : t.ClearOf r.n r.w)
    (label : ∀ x ∈ t.records, x.label ≠ r.label) : { t with records := insertByN r t.records }.Ordered := by
  obtain ⟨before, after, inserted, parts, place⟩ := t.exists_place r
  obtain ⟨below, above⟩ := place h (by omega) clear
  rw [inserted]
  rw [parts] at room label
  have member : ∀ x ∈ before ++ r :: after, x = r ∨ x ∈ t.records := fun x hx => by
    rw [parts]
    simpa [or_left_comm] using hx
  refine ⟨by simp at room ⊢; omega, fun x hx => ?_, fun x hx => ?_, ?_, ?_⟩
  · obtain rfl | hx := member x hx
    · exact nominal
    · exact h.nominal x hx
  · obtain rfl | hx := member x hx
    · exact window
    · exact h.window x hx
  · obtain ⟨first, last, cross⟩ := List.pairwise_append.mp (parts ▸ h.apart)
    refine List.pairwise_append.mpr ⟨first, List.pairwise_cons.mpr ⟨above, last⟩, fun x hx y hy => ?_⟩
    obtain rfl | hy := List.mem_cons.mp hy
    · exact below x hx
    · exact cross x hx y hy
  · obtain ⟨first, last, cross⟩ := List.pairwise_append.mp (parts ▸ h.labels)
    refine List.pairwise_append.mpr ⟨first, List.pairwise_cons.mpr
      ⟨fun x hx => (label x (List.mem_append_right _ hx)).symm, last⟩, fun x hx y hy => ?_⟩
    obtain rfl | hy := List.mem_cons.mp hy
    · exact label x (List.mem_append_left _ hx)
    · exact cross x hx y hy

theorem mem_insertByN {r x : LineRec} {rs : List LineRec} : x ∈ insertByN r rs ↔ x = r ∨ x ∈ rs := by
  obtain ⟨before, after, inserted, parts, -⟩ := insertByN_split r rs
  rw [inserted, parts]
  simp [or_left_comm]

/-- A window that overlaps or touches none but that of `label` is clear of the others (R80, R82). -/
theorem Table.clashes_eq_false {t : Table} {label : Nat} {n w : Int} :
    t.clashes label n w = false ↔ (t.without label).ClearOf n w := by
  simp [Table.clashes, Table.ClearOf, Table.mem_without, windowsClash]

theorem placeInRange_iff {n w : Int} :
    placeInRange n w = true ↔ (-(2 ^ 46) ≤ n ∧ n ≤ 2 ^ 46) ∧ 1000 ≤ w ∧ w ≤ 50000000 := by
  simp only [placeInRange, Bool.and_eq_true, decide_eq_true_eq, and_assoc]
  rfl

end Sys2Proof.Machine

namespace Sys2Proof.Machine

/-! ### What the invariant of the results speaks of -/

/-- Two states hold the same records and occupancy, and their controllers agree on the state and the direction: all that the
invariant of the results speaks of. -/
structure State.SameResults (s t : State) : Prop where
  records : t.table.records = s.table.records
  ctl : t.trav.ctl = s.trav.ctl
  dir : t.trav.dir = s.trav.dir
  occ : t.eng.occ = s.eng.occ

theorem State.SameResults.ite {s t u : State} (p : Prop) [Decidable p] (ht : s.SameResults t) (hu : s.SameResults u) :
    s.SameResults (if p then t else u) := by
  split
  · exact ht
  · exact hu

theorem State.ResultsSound.of_same {s t : State} (h : s.ResultsSound) (same : s.SameResults t) : t.ResultsSound where
  ordered := by
    obtain ⟨depth, nominal, window, apart, labels⟩ := h.ordered
    constructor <;> rwa [same.records]
  records := by rw [same.records]; exact h.records
  occupancy o ho := by
    have held := h.occupancy o (same.occ ▸ ho)
    exact { held with
      running := same.ctl.trans held.running
      direction := same.dir.trans held.direction
      record := by rw [same.records]; exact held.record }

theorem State.ResultsSound.table {s : State} (h : s.ResultsSound) : s.table.Sound := ⟨h.ordered, h.records⟩

theorem Table.Sound.vacant {s : State} (h : s.table.Sound) (vacant : s.eng.occ = none) : s.ResultsSound where
  ordered := h.ordered
  records := h.records
  occupancy o ho := by simp [vacant] at ho

/-- An occupancy is held in a running pass alone (R121). -/
theorem State.ResultsSound.vacant {s : State} (h : s.ResultsSound) (stopped : s.trav.ctl ≠ .running) :
    s.eng.occ = none := by
  cases ho : s.eng.occ with
  | none => rfl
  | some o => exact absurd (h.occupancy o ho).running stopped

/-- Every operation of `f` on the records keeps them sound, and the record of the occupancy eligible. -/
theorem State.ResultsSound.mapRecords {s : State} (h : s.ResultsSound) {f : LineRec → LineRec} (place : LeavesPlace f)
    (sound : ∀ r ∈ s.table.records, (f r).Sound)
    (eligible : ∀ o, s.eng.occ = some o → ∀ r ∈ s.table.records, r.label = o.label → r.eligible o.dir = true →
      (f r).eligible o.dir = true) :
    { s with table := { s.table with records := s.table.records.map f } }.ResultsSound where
  ordered := h.ordered.map place
  records := List.forall_mem_map.mpr sound
  occupancy o ho := by
    have held := h.occupancy o ho
    obtain ⟨r, hr, label, owes⟩ := held.record
    exact { held with
      record := ⟨f r, List.mem_map_of_mem hr, (place r).1.trans label, eligible o ho r hr label owes⟩ }

/-- The occupancy replaced by a sound one. -/
theorem State.ResultsSound.withOcc {s : State} (h : s.ResultsSound) {o : Occ} (sound : s.OccupancySound o) :
    { s with eng := { s.eng with occ := some o } }.ResultsSound where
  ordered := h.ordered
  records := h.records
  occupancy o' ho := by
    cases ho
    exact { sound with }

theorem State.ResultsSound.vacate {s : State} (h : s.ResultsSound) : s.vacate.ResultsSound :=
  Table.Sound.vacant (s := s.vacate) h.table rfl

/-! ### A pass end and a raising (R105, R125, R149, R150) -/

/-- The reasons that spoil an occupancy before its exit (R121): a miss and a reversal are found at the exit. -/
def Reject.Spoils (reason : Reject) : Prop := reason ≠ .miss ∧ reason ≠ .reversal

theorem Latched.reason_spoils (l : Latched) : l.reason.Spoils := by
  unfold Latched.reason Reject.Spoils
  split <;> simp

theorem State.ResultsSound.spoil {s : State} (h : s.ResultsSound) {reason : Reject} (spoils : reason.Spoils) :
    (s.spoil reason).ResultsSound := by
  unfold State.spoil
  split
  · exact h
  · next o ho =>
    split
    · exact h
    · exact h.withOcc { h.occupancy o ho with
        provisional := fun _ _ e => by cases e
        spoiled := fun _ e => by cases e; exact spoils }

/-- The pulse is no matter of the results. -/
theorem State.ResultsSound.withPulse {s : State} (h : s.ResultsSound) (p : Option OpenPulse) :
    { s with eng := { s.eng with pulse := p } }.ResultsSound := h.of_same ⟨rfl, rfl, rfl, rfl⟩

theorem State.ResultsSound.dropPulse {s : State} (h : s.ResultsSound) {reason : Reject} (spoils : reason.Spoils) :
    (s.dropPulse reason).ResultsSound := by
  unfold State.dropPulse
  split
  · exact h
  · exact (h.withPulse none).spoil spoils

/-- A pass end counts a miss or reject against the record of its occupancy, or leaves the table (R105, R125). -/
theorem State.endPass_table (s : State) (kind : EndKind) (inStop : Bool) :
    (s.endPass kind inStop).table = s.table ∨ ∃ label missLimit reason,
      (s.endPass kind inStop).table = s.table.modify label (LineRec.tally missLimit reason) := by
  unfold State.endPass
  split
  · simp only [State.note_table, State.accountPlan_table, State.passHoldStep_table]
    unfold State.closeOccupancy
    split
    · exact .inl (by simp)
    · simp only [State.note_table, State.tally_table, State.vacate_table, State.dropPulse_table, State.leaveRunning_table]
      exact .inr ⟨_, _, _, rfl⟩
  · exact .inl rfl

theorem State.ResultsSound.endPass {s : State} (h : s.ResultsSound) (kind : EndKind) (inStop : Bool) :
    (s.endPass kind inStop).ResultsSound := by
  by_cases running : s.trav.ctl = .running
  · refine Table.Sound.vacant ?_ (by rw [State.endPass_eng running])
    obtain same | ⟨label, missLimit, reason, tallied⟩ := s.endPass_table kind inStop
    · rw [same]
      exact h.table
    · rw [tallied]
      exact h.table.tally _ _ _
  · rw [State.endPass_of_not_running running]
    exact h

theorem State.ResultsSound.note {s : State} (h : s.ResultsSound) (d : Detail) : (s.note d).ResultsSound :=
  h.of_same ⟨rfl, rfl, rfl, rfl⟩

theorem State.ResultsSound.raise {s : State} (h : s.ResultsSound) (d : Detail) : (s.raise d).ResultsSound := by
  obtain e | ⟨e, -, -⟩ := s.raise_cases d <;> rw [e]
  · exact h.note d
  · exact (h.note d).endPass _ _

/-! ### Exits and commits (R75, R124 to R127, R133) -/

theorem State.ResultsSound.countReject {s : State} (h : s.ResultsSound) (vacant : s.eng.occ = none) (label : Nat)
    (reason : Reject) : (s.countReject label reason).ResultsSound :=
  (Table.Sound.vacant (s := s.tally label reason) (h.table.tally _ _ _) vacant).raise _

theorem State.ResultsSound.raiseIfCompleted {s : State} (h : s.ResultsSound) (before after : LineRec) :
    (s.raiseIfCompleted before after).ResultsSound := by
  unfold State.raiseIfCompleted
  split
  · exact h.raise _
  · exact h

theorem State.ResultsSound.commit {s : State} (h : s.ResultsSound) (vacant : s.eng.occ = none) {label : Nat} {d : Dir}
    {dev : Int} (range : -50000000 ≤ dev ∧ dev ≤ 50000000)
    (eligible : ∀ r ∈ s.table.records, r.label = label → r.eligible d = true) :
    (s.commit label d dev).ResultsSound := by
  have committed : { s with table := s.table.modify label (LineRec.commit d dev s.trav.passNo) }.ResultsSound :=
    Table.Sound.vacant (h.table.modify (LineRec.commit_place d dev _) fun r hr hl =>
      (h.records r hr).commit (eligible r hr hl) range _) vacant
  unfold State.commit
  dsimp only
  split
  · exact committed
  · exact committed.raiseIfCompleted _ _

/-- Every record of the occupancy's label is eligible in its direction (R77). -/
theorem State.ResultsSound.eligible {s : State} (h : s.ResultsSound) {o : Occ} (ho : s.eng.occ = some o) {r : LineRec}
    (hr : r ∈ s.table.records) (label : r.label = o.label) : r.eligible o.dir = true := by
  obtain ⟨r', hr', label', eligible⟩ := (h.occupancy o ho).record
  rwa [h.ordered.eq_of_label hr hr' (label.trans label'.symm)]

theorem State.ResultsSound.exitOccupancy {s : State} (h : s.ResultsSound) {o : Occ} (ho : s.eng.occ = some o)
    (side : Side) : (s.exitOccupancy o side).ResultsSound := by
  have rejected := h.vacate.countReject rfl o.label
  unfold State.exitOccupancy
  dsimp only
  split
  · exact rejected _
  · exact rejected _
  · next dev pos outcome =>
    split
    · exact h.vacate.commit rfl ((h.occupancy o ho).provisional dev pos outcome) fun r hr hl => h.eligible ho hr hl
    · exact rejected _

theorem State.ResultsSound.takePendingExit {s : State} (h : s.ResultsSound) : s.takePendingExit.ResultsSound := by
  unfold State.takePendingExit
  split
  · exact h
  · next o ho =>
    split
    · exact h
    · exact h.exitOccupancy ho _

theorem State.ResultsSound.discardPulse {s : State} (h : s.ResultsSound) {reason : Reject} (spoils : reason.Spoils) :
    (s.discardPulse reason).ResultsSound := by
  unfold State.discardPulse
  split
  · exact (h.dropPulse spoils).takePendingExit
  · exact h

/-! ### Crossings and strobes (R119 to R123) -/

/-- An entry that begins an occupancy finds the record eligible in the direction of the running pass (R121). -/
theorem State.ResultsSound.takeEntry {s : State} (h : s.ResultsSound) (running : s.trav.ctl = .running) (label : Nat)
    (side : Side) : (s.takeEntry label side).ResultsSound := by
  unfold State.takeEntry
  split
  · next d r _ hd hr =>
    obtain ⟨member, hl⟩ := (Table.find_eq_some h.ordered.labels).mp hr
    split
    · next entry =>
      exact h.withOcc
        { running := running
          direction := hd
          entry := entry.2
          record := ⟨r, member, hl, entry.1⟩
          provisional := fun _ _ e => by cases e
          spoiled := fun _ e => by cases e }
    · exact h
  · exact h

theorem State.ResultsSound.takeLeave {s : State} (h : s.ResultsSound) (label : Nat) (side : Side) :
    (s.takeLeave label side).ResultsSound := by
  unfold State.takeLeave
  split
  · exact h
  · next o ho =>
    split
    · split
      · exact h.withOcc { h.occupancy o ho with }
      · exact h.exitOccupancy ho _
    · exact h

theorem State.ResultsSound.takeCrossing {s : State} (h : s.ResultsSound) (belongs : Bool) (c : Crossing) :
    (s.takeCrossing belongs c).ResultsSound := by
  unfold State.takeCrossing
  split
  · next taken =>
    have running := (State.running_iff s).mp (Bool.and_eq_true _ _ ▸ taken).2
    cases c with
    | enter label side pos => exact h.takeEntry running label side
    | leave label side pos => exact h.takeLeave label side
  · exact h

theorem State.ResultsSound.foldl {α : Type} {f : State → α → State}
    (hf : ∀ (s : State) (a : α), s.ResultsSound → (f s a).ResultsSound) (xs : List α) {s : State} (h : s.ResultsSound) :
    (xs.foldl f s).ResultsSound := by
  induction xs generalizing s with
  | nil => exact h
  | cons x xs ih => exact ih (hf s x h)

theorem State.ResultsSound.stray {s : State} (h : s.ResultsSound) (pos : Option Int) : (s.stray pos).ResultsSound := by
  refine State.ResultsSound.raise ?_ _
  exact h.of_same ⟨rfl, rfl, rfl, rfl⟩

theorem State.ResultsSound.strobeInOccupied {s : State} (h : s.ResultsSound) {o : Occ} (ho : s.eng.occ = some o)
    {dev : Int} (range : -50000000 ≤ dev ∧ dev ≤ 50000000) (pos : Int) (valid : Bool) {reason : Reject}
    (spoils : reason.Spoils) (inBand : Bool) : (s.strobeInOccupied o dev pos valid reason inBand).ResultsSound := by
  unfold State.strobeInOccupied
  split
  · exact h.spoil spoils
  · split
    · exact h.spoil (by simp [Reject.Spoils])
    · split
      · exact h.withOcc { h.occupancy o ho with
          provisional := fun _ _ e => by cases e; exact range
          spoiled := fun _ e => by cases e }
      · exact h.spoil (by simp [Reject.Spoils])
      · exact h

/-- A strobe in a window deviates from N by at most W (R71, R122). -/
theorem State.ResultsSound.deviation {s : State} (h : s.ResultsSound) {p : Int} {r : LineRec}
    (hr : s.table.at p = some r) : -50000000 ≤ p - r.n ∧ p - r.n ≤ 50000000 := by
  obtain ⟨member, inside⟩ := (Table.at_eq_some h.ordered).mp hr
  have width := h.ordered.window r member
  omega

theorem State.ResultsSound.matchStrobe {s : State} (h : s.ResultsSound) (pos : Option Int) (valid : Bool)
    {reason : Reject} (spoils : reason.Spoils) (inBand : Bool) :
    (s.matchStrobe pos valid reason inBand).ResultsSound := by
  unfold State.matchStrobe
  split
  · exact h.stray _
  · next p =>
    split
    · exact h.stray _
    · next r hr =>
      split
      · exact h
      · next o ho =>
        split
        · exact h.strobeInOccupied ho (h.deviation hr) p valid spoils inBand
        · exact h

theorem State.ResultsSound.lostStrobe {s : State} (h : s.ResultsSound) : s.lostStrobe.ResultsSound := by
  unfold State.lostStrobe
  split
  · exact h.spoil (by simp [Reject.Spoils])
  · exact h

/-! ### HOME, pulses, edges and segments (R117 to R122, R129) -/

theorem State.sameResults_setOrigins (s : State) (rawM rawP : Int) : s.SameResults (s.setOrigins rawM rawP) := by
  unfold State.setOrigins
  split <;> exact ⟨rfl, rfl, rfl, rfl⟩

theorem State.ResultsSound.offerHome {s : State} (h : s.ResultsSound) (homeValid : Bool) (rawM rawP : Int) :
    (s.offerHome homeValid rawM rawP).ResultsSound := by
  have set := h.of_same (s.sameResults_setOrigins rawM rawP)
  unfold State.offerHome
  split
  · refine State.ResultsSound.raise ?_ _
    exact set.of_same ⟨rfl, rfl, rfl, rfl⟩
  · exact h

theorem State.ResultsSound.openPulse {s : State} (h : s.ResultsSound) (l : Latched) : (s.openPulse l).ResultsSound := by
  obtain e | e | e := s.openPulse_cases l <;> rw [e]
  · exact h
  · exact h.withPulse _
  · exact (h.withPulse _).discardPulse l.reason_spoils

theorem State.ResultsSound.closePulse {s : State} (h : s.ResultsSound) (belongs : Bool) (p : OpenPulse) (l : Latched) :
    (s.closePulse belongs p l).ResultsSound := by
  have closed := h.withPulse none
  unfold State.closePulse
  dsimp only
  split
  · exact (closed.matchStrobe _ _ l.reason_spoils _).takePendingExit
  · split
    · exact closed.offerHome _ _ _
    · exact closed

theorem State.ResultsSound.takeEdge {s : State} (h : s.ResultsSound) (belongs : Bool) (e : Edge) :
    (s.takeEdge belongs e).ResultsSound := by
  unfold State.takeEdge
  dsimp only
  split
  · split
    · exact h.matchStrobe _ _ e.latched.reason_spoils _
    · exact h.offerHome _ _ _
  · exact (h.discardPulse (by simp [Reject.Spoils])).openPulse _
  · split
    · exact h
    · exact h.closePulse belongs _ _

theorem State.ResultsSound.takeInOrder {s : State} (h : s.ResultsSound) (belongs up : Bool) (es : List Edge)
    (cs : List Crossing) : (s.takeInOrder belongs up es cs).ResultsSound := by
  have crossed : ∀ (cs : List Crossing) (u : State), u.ResultsSound →
      (cs.foldl (State.takeCrossing belongs) u).ResultsSound := fun cs _ hu =>
    hu.foldl (fun _ c hu => hu.takeCrossing belongs c) cs
  induction es generalizing s cs with
  | nil => exact crossed cs s h
  | cons e es ih => exact ih ((crossed _ s h).takeEdge belongs e) _

theorem State.ResultsSound.takeSegment {s : State} (h : s.ResultsSound) (belongs : Bool) (j : Nat) (p0 p1 : Int) :
    (s.takeSegment belongs j p0 p1).ResultsSound := by
  refine State.ResultsSound.takeInOrder ?_ _ _ _ _
  exact h.of_same ⟨rfl, rfl, rfl, rfl⟩

/-! ### The aligned track and the controller's tests (R98 to R103, R113, R118) -/

theorem State.ResultsSound.testUnlessEnded {s : State} (h : s.ResultsSound) (ctl : Ctl) (j : Nat) (p : Int) :
    (s.testUnlessEnded ctl j p).ResultsSound := by
  have start : s.trav.ctl = .waiting → (s.testStart j p).ResultsSound := fun waiting => by
    unfold State.testStart
    split
    · exact h
    · split
      · exact Table.Sound.vacant (s := s.startPass _) h.table (h.vacant (by simp [waiting]))
      · exact h
  have finish : (s.testEnd p).ResultsSound := by
    unfold State.testEnd
    split
    · exact h.endPass _ _
    · split
      · exact h.endPass _ _
      · exact h
  unfold State.testUnlessEnded State.testTraverse
  split
  · split
    · exact h
    · exact start ‹_›
    · exact finish
  · exact h

theorem State.ResultsSound.formPosition {s : State} (h : s.ResultsSound) (j : Nat) (p : Int) :
    (s.formPosition j p).ResultsSound := by
  have noted : ({ s with tracks := { s.tracks with alignedNext := j + 1 } }.notePosition j p).ResultsSound :=
    h.of_same ⟨rfl, rfl, rfl, rfl⟩
  obtain e | e := State.checkWidth_cases _ p <;> rw [State.formPosition, e]
  · exact noted
  · exact noted.discardPulse (by simp [Reject.Spoils])

theorem State.ResultsSound.checkSound {s : State} (h : s.ResultsSound) (j : Nat) : (s.checkSound j).ResultsSound := by
  obtain e | e | e := s.checkSound_cases j <;> rw [e]
  · exact h
  · exact h.discardPulse (by simp [Reject.Spoils])
  · exact h.discardPulse (by simp [Reject.Spoils])

theorem State.ResultsSound.completeLatches {s : State} (h : s.ResultsSound) : s.completeLatches.ResultsSound :=
  h.of_same ⟨rfl, rfl, rfl, rfl⟩

theorem State.ResultsSound.reachAligned {s : State} (h : s.ResultsSound) : s.reachAligned.ResultsSound := by
  have tested := (h.completeLatches.formPosition s.tracks.alignedNext
    (s.completeLatches.trackPosition s.tracks.alignedNext)).testUnlessEnded s.completeLatches.trav.ctl
    s.tracks.alignedNext (s.completeLatches.trackPosition s.tracks.alignedNext)
  unfold State.reachAligned
  dsimp only
  split
  · exact tested.checkSound _
  · exact (tested.takeSegment _ _ _ _).checkSound _

theorem State.ResultsSound.reachDue {s : State} (h : s.ResultsSound) (n : Nat) : (s.reachDue n).ResultsSound := by
  induction n generalizing s with
  | zero => exact h
  | succ n ih =>
    unfold State.reachDue
    split
    · exact ih h.reachAligned
    · exact h

theorem State.ResultsSound.dueFirst {s : State} (h : s.ResultsSound) (c : Fin 4) : (s.dueFirst c).ResultsSound := by
  unfold State.dueFirst
  split
  · exact h.completeLatches.reachDue _
  · exact h

end Sys2Proof.Machine

namespace Sys2Proof.Machine

/-! ### Samples (R4, R18, R22, R35, R36, R39, R42) -/

theorem State.ResultsSound.counting {s : State} (h : s.ResultsSound) (x : SampleIn) : (s.counting x).ResultsSound := by
  refine h.of_same ?_
  unfold State.counting State.startRun
  rw [State.judgeAnchor_eq]
  split <;> exact ⟨rfl, rfl, rfl, rfl⟩

theorem State.ResultsSound.toReport {s : State} (h : s.ResultsSound) (x : SampleIn) : (s.toReport x).ResultsSound := by
  have reported : ∀ sets, ((s.counting x).reportSat x.ch sets).ResultsSound := fun sets => by
    unfold State.reportSat
    split
    · exact (h.counting x).raise _
    · exact h.counting x
  unfold State.toReport State.probeTake
  split
  · exact reported _
  · split
    · split
      · refine State.ResultsSound.raise ?_ _
        exact (reported _).of_same ⟨rfl, rfl, rfl, rfl⟩
      · exact (reported _).of_same ⟨rfl, rfl, rfl, rfl⟩
    · exact reported _

theorem State.ResultsSound.reportCount {s : State} (h : s.ResultsSound) (c : Fin 4) (r : Counted) :
    (s.reportCount c r).ResultsSound := by
  unfold State.reportCount
  split
  · dsimp only
    split
    · exact (h.raise _).endPass _ _
    · exact h.raise _
  · split
    · exact h
    · split
      · exact h.raise _
      · exact h

theorem State.ResultsSound.countSample {s : State} (h : s.ResultsSound) (x : SampleIn) :
    (s.countSample x).ResultsSound := by
  unfold State.countSample
  split
  · have reported := ((h.dueFirst x.ch).toReport x).reportCount x.ch (((s.dueFirst x.ch).chan x.ch).count x)
    rw [State.countNow_eq, State.followTracks_frame]
    exact reported.of_same ⟨rfl, rfl, rfl, rfl⟩
  · exact h

theorem State.ResultsSound.countIf {s : State} (h : s.ResultsSound) (x : SampleIn) (kind : Channel → Point → Bool) :
    (s.countIf x kind).ResultsSound := by
  unfold State.countIf
  split
  · exact h.countSample x
  · exact h

/-! ### The update (R46) and the strobe path (R110 to R115) -/

theorem State.sameResults_applyValues (s : State) (nu : Int) (t : Option Int) :
    s.SameResults (s.applyValues nu t) where
  records := by rw [State.applyValues_table]
  ctl := by rw [State.applyValues_trav]
  dir := by rw [State.applyValues_trav]
  occ := by rw [State.applyValues_eng]

theorem State.ResultsSound.moveApplied {s : State} (h : s.ResultsSound) (nu : Int) (t : Option Int) :
    (s.moveApplied nu t).ResultsSound := by
  have applied := h.of_same (s.sameResults_applyValues nu t)
  unfold State.moveApplied
  split
  · exact applied
  · exact applied.of_same ⟨rfl, rfl, rfl, rfl⟩

theorem State.ResultsSound.update {s : State} (h : s.ResultsSound) : s.update.ResultsSound := by
  have formed : s.formTargets.ResultsSound := h.of_same ⟨rfl, rfl, rfl, rfl⟩
  have stepped : s.formTargets.policyStep.ResultsSound := by
    unfold State.policyStep
    split
    · exact formed.moveApplied _ _
    · exact formed.moveApplied _ _
    · split
      · exact formed
      · exact formed.moveApplied _ _
  have judged : ∀ stale, { s.formTargets.policyStep with
      comp := { s.formTargets.policyStep.comp with stale := stale } }.ResultsSound := fun _ =>
    stepped.of_same ⟨rfl, rfl, rfl, rfl⟩
  unfold State.update
  split
  · unfold State.judgeStale
    dsimp only
    split
    · exact (judged _).raise _
    · exact judged _
  · exact h

theorem State.ResultsSound.confirmLevel {s : State} (h : s.ResultsSound) (level : Bool) (t : Nat) :
    (s.confirmLevel level t).ResultsSound := by
  have noted : { s with eng := { s.eng with level := some level, levelClock := some t } }.ResultsSound :=
    h.of_same ⟨rfl, rfl, rfl, rfl⟩
  unfold State.confirmLevel State.acceptEdge
  dsimp only
  split
  · exact noted
  · split
    · exact noted
    · split
      · exact noted
      · split
        · exact noted.lostStrobe
        · split
          · exact noted.lostStrobe
          · exact noted.of_same ⟨rfl, rfl, rfl, rfl⟩

/-! ### The channels' requests and the settings (R17 to R22, R41, R48, R54, R56, R97, R109, R147) -/

theorem onChannel_resultsSound {b : Byte} {f : Fin 4 → State → State × Response} {s : State} (h : s.ResultsSound)
    (hf : ∀ c, (f c s).1.ResultsSound) : (onChannel b f s).1.ResultsSound := by
  unfold onChannel
  split
  · exact h
  · exact hf _

theorem State.ResultsSound.channelOnAt {s : State} (h : s.ResultsSound) (c : Fin 4) :
    (channelOnAt c s).1.ResultsSound := by
  unfold Machine.channelOnAt
  split
  · exact h
  · refine h.of_same ?_
    exact .ite _ ⟨rfl, rfl, rfl, rfl⟩ ⟨rfl, rfl, rfl, rfl⟩

theorem State.offEngine_occ (s : State) (c : Fin 4) : (s.offEngine c).eng.occ = s.eng.occ := by
  unfold State.offEngine
  split
  · rfl
  · split
    · rw [State.advanceTracks_frame]
    · rfl

theorem State.ResultsSound.channelOffAt {s : State} (h : s.ResultsSound) (c : Fin 4) :
    (channelOffAt c s).1.ResultsSound := by
  have halted : (s.halted c).ResultsSound := by
    refine h.of_same ?_
    rw [State.halted, State.offEngine_frame, State.judgeAnchor_eq]
    exact ⟨rfl, rfl, rfl, State.offEngine_occ _ c⟩
  unfold Machine.channelOffAt
  split
  · exact h
  · dsimp only
    split
    · exact h
    · rw [State.switchOff_eq, State.abortProbe]
      split
      · exact halted
      · split
        · refine State.ResultsSound.raise ?_ _
          exact halted.of_same ⟨rfl, rfl, rfl, rfl⟩
        · exact halted

theorem State.ResultsSound.presetAt {s : State} (h : s.ResultsSound) (value : Int) (c : Fin 4) :
    (presetAt value c s).1.ResultsSound := by
  unfold Machine.presetAt
  split
  · exact h
  · split
    · exact h
    · split
      · exact h
      · refine h.of_same ?_
        exact .ite _ ⟨rfl, rfl, rfl, rfl⟩ ⟨rfl, rfl, rfl, rfl⟩

theorem State.ResultsSound.probeAt {s : State} (h : s.ResultsSound) (k : Nat) (c : Fin 4) :
    (probeAt k c s).1.ResultsSound := by
  unfold Machine.probeAt
  split
  · exact h
  · split
    · exact h
    · exact h.of_same ⟨rfl, rfl, rfl, rfl⟩

theorem State.ResultsSound.setChannelOn {s : State} (h : s.ResultsSound) (q : SetChannelReq) (c : Fin 4) :
    (setChannelOn q c s).1.ResultsSound := by
  have set : ∀ after, (s.withChannel c after).ResultsSound := fun _ => h.of_same ⟨rfl, rfl, rfl, rfl⟩
  unfold Machine.setChannelOn
  split
  · exact h
  · split
    · exact h
    · split
      · exact h
      · split
        · dsimp only
          rw [State.applyChannel_eq]
          split
          · exact (set _).endPass _ _
          · exact set _
        · exact h

theorem State.ResultsSound.setCompensation {s : State} (h : s.ResultsSound) (q : SetCompensationReq) :
    (setCompensation q s).1.ResultsSound := by
  unfold Machine.setCompensation
  split
  · exact h
  · split
    · split
      · exact h
      · refine h.of_same ?_
        exact .ite _ ⟨rfl, rfl, rfl, rfl⟩ ⟨rfl, rfl, rfl, rfl⟩
    · exact h

theorem State.ResultsSound.putEnvironment {s : State} (h : s.ResultsSound) (q : PutEnvironmentReq) :
    (putEnvironment q s).1.ResultsSound := by
  unfold Machine.putEnvironment
  split
  · exact h
  · dsimp only
    split
    · refine State.ResultsSound.raise ?_ _
      exact h.of_same ⟨rfl, rfl, rfl, rfl⟩
    · exact h.of_same ⟨rfl, rfl, rfl, rfl⟩

theorem State.ResultsSound.anchorTracker {s : State} (h : s.ResultsSound) (nu : Option (BitVec 32))
    (unlisted : BitVec 7) : (anchorTracker nu unlisted s).1.ResultsSound := by
  have anchored : ∀ a, (s.setAnchor a).ResultsSound := fun _ => h.of_same ⟨rfl, rfl, rfl, rfl⟩
  unfold Machine.anchorTracker
  split
  · exact h
  · split
    · exact h
    · split
      · exact h
      · split
        · exact h
        · split <;> split
          · exact h
          · exact anchored _
          · exact h
          · exact anchored _

theorem State.ResultsSound.setDetector {s : State} (h : s.ResultsSound) (q : SetDetectorReq) :
    (setDetector q s).1.ResultsSound := by
  unfold Machine.setDetector
  split
  · exact h
  · split
    · exact h
    · next mode _ =>
      have set : { s with eng := q.apply mode s.completionClock s.eng }.ResultsSound := h.of_same ⟨rfl, rfl, rfl, rfl⟩
      have emptied : { s with eng := { q.apply mode s.completionClock s.eng with latches := [] } }.ResultsSound :=
        h.of_same ⟨rfl, rfl, rfl, rfl⟩
      dsimp only
      split
      · exact h
      · dsimp only [State.changeMode]
        split
        · refine State.ResultsSound.discardPulse ?_ (by simp [Reject.Spoils])
          dsimp only [State.loseLatches]
          split
          · exact emptied
          · exact emptied.lostStrobe
        · exact set

theorem State.ResultsSound.setTraverse {s : State} (h : s.ResultsSound) (q : SetTraverseReq) :
    (setTraverse q s).1.ResultsSound := by
  unfold Machine.setTraverse
  split
  · exact h
  · split
    · exact h
    · exact h.of_same ⟨rfl, rfl, rfl, rfl⟩

theorem State.ResultsSound.setAttention {s : State} (h : s.ResultsSound) (q : SetAttentionReq) :
    (setAttention q s).1.ResultsSound := by
  unfold Machine.setAttention
  split
  · exact h
  · split
    · exact h
    · exact h.of_same ⟨rfl, rfl, rfl, rfl⟩

theorem State.ResultsSound.acknowledge {s : State} (h : s.ResultsSound) (set : BitVec 16) :
    (acknowledge set s).1.ResultsSound := by
  have cleared : (s.clearSources set).ResultsSound := h.of_same ⟨rfl, rfl, rfl, rfl⟩
  refine cleared.foldl (fun u i hu => ?_) _
  unfold State.raiseAgain
  split
  · split
    · exact hu
    · exact hu.raise _
  · exact hu

/-! ### The plan and HOME (R94 to R96, R128) -/

/-- An IDLE or WAITING controller starts a plan or stops it with no occupancy held. -/
theorem State.ResultsSound.startPlan {s : State} (h : s.ResultsSound) (count : Nat) :
    (startPlan count s).1.ResultsSound := by
  unfold Machine.startPlan
  split
  · exact h
  · next idle =>
    have vacant := h.vacant (by simp [not_not.mp idle])
    refine Table.Sound.vacant ?_ ?_
    · exact h.table
    · exact vacant

theorem State.ResultsSound.stopPlan {s : State} (h : s.ResultsSound) : (stopPlan s).1.ResultsSound := by
  unfold Machine.stopPlan
  split
  · exact h
  · have ended := h.endPass .request true
    refine State.ResultsSound.raise ?_ _
    exact Table.Sound.vacant (s := (s.endPass .request true).goIdle) ended.table
      (ended.vacant (s.endPass_not_running _ _))

theorem State.ResultsSound.endPassRequest {s : State} (h : s.ResultsSound) : (endPassRequest s).1.ResultsSound := by
  unfold Machine.endPassRequest
  split
  · exact h.endPass _ _
  · exact h

theorem State.ResultsSound.home {s : State} (h : s.ResultsSound) : (home s).1.ResultsSound := by
  unfold Machine.home
  split
  · exact h
  · exact h.of_same ⟨rfl, rfl, rfl, rfl⟩

/-! ### The line table's requests (R80 to R91) -/

/-- A request addressed to a record acts on one of the table, with the label asked. -/
theorem onRecord_resultsSound {l : Nat} {f : LineRec → State → State × Response} {s : State} (h : s.ResultsSound)
    (hf : ∀ r ∈ s.table.records, r.label = l → (f r s).1.ResultsSound) : (onRecord l f s).1.ResultsSound := by
  unfold onRecord
  split
  · exact h
  · next r hr =>
    obtain ⟨member, label⟩ := (Table.find_eq_some h.ordered.labels).mp hr
    exact hf r member label

theorem askedState_eq_some {b : Byte} {st : RecState} (h : askedState b = some st) : st = .armed ∨ st = .paused := by
  unfold askedState at h
  split at h <;> cases h <;> simp

theorem State.ResultsSound.insertRecord {s : State} (h : s.ResultsSound) (q : InsertReq) :
    (insertRecord q s).1.ResultsSound := by
  unfold Machine.insertRecord
  split
  · next state place asked =>
    split
    · exact h
    · next room =>
      split
      · exact h
      · next free =>
        have label : ∀ x ∈ s.table.records, x.label ≠ q.label.toNat :=
          Table.find_eq_none.mp (Option.not_isSome_iff_eq_none.mp free)
        split
        · exact h
        · next clash =>
          obtain ⟨nominal, window⟩ := placeInRange_iff.mp place
          have clear : s.table.ClearOf q.n.toInt q.w.toInt := fun x hx =>
            Table.clashes_eq_false.mp (Bool.eq_false_iff.mpr clash) x (Table.mem_without.mpr ⟨hx, label x hx⟩)
          refine ⟨h.ordered.insert (r := newRecord q state) (not_le.mp room) nominal window clear label,
            fun r hr => ?_, fun o ho => ?_⟩
          · obtain rfl | hr := mem_insertByN.mp hr
            · exact newRecord_sound q (by obtain rfl | rfl := askedState_eq_some asked <;> simp)
            · exact h.records r hr
          · obtain ⟨r, hr, held⟩ := (h.occupancy o ho).record
            exact { h.occupancy o ho with record := ⟨r, mem_insertByN.mpr (.inr hr), held⟩ }
  · exact h

/-- The occupancy of a record, read from the state. -/
theorem State.occupancyOf_eq_some {s : State} {label : Nat} {o : Occ} :
    s.occupancyOf label = some o ↔ s.eng.occ = some o ∧ o.label = label := by
  unfold State.occupancyOf
  cases s.eng.occ with
  | none => simp
  | some o' =>
    by_cases e : o'.label = label
    · simp only [e, if_true, Option.some.injEq]
      exact ⟨fun h => ⟨h, h ▸ e⟩, And.left⟩
    · simp only [e, if_false, Option.some.injEq, reduceCtorEq, false_iff]
      exact fun ⟨same, label⟩ => e (same ▸ label)

theorem State.occupancyOf_isSome {s : State} {label : Nat} :
    (s.occupancyOf label).isSome = true ↔ ∃ o, s.eng.occ = some o ∧ o.label = label := by
  simp only [Option.isSome_iff_exists, State.occupancyOf_eq_some]

theorem State.ResultsSound.retireRecordOn {s : State} (h : s.ResultsSound) (r : LineRec) :
    (retireRecordOn r s).1.ResultsSound := by
  have removed : (s.table.without r.label).Sound :=
    ⟨h.ordered.without _, fun x hx => h.records x (Table.mem_without.mp hx).1⟩
  unfold Machine.retireRecordOn
  dsimp only
  split
  · exact Table.Sound.vacant (s := (s.setRecords (s.table.without r.label).records).vacate) removed rfl
  · next free =>
    refine ⟨removed.ordered, removed.records, fun o ho => ?_⟩
    obtain ⟨x, hx, label, eligible⟩ := (h.occupancy o ho).record
    refine { h.occupancy o ho with record := ⟨x, Table.mem_without.mpr ⟨hx, fun same => free ?_⟩, label, eligible⟩ }
    exact State.occupancyOf_isSome.mpr ⟨o, ho, label.symm.trans same⟩

theorem State.ResultsSound.setRecordStateOn {s : State} (h : s.ResultsSound) (state : Byte) (r : LineRec) :
    (setRecordStateOn state r s).1.ResultsSound := by
  unfold Machine.setRecordStateOn
  split
  · exact h
  · next st _ =>
    split
    · exact h
    · next free =>
      refine State.ResultsSound.raiseIfCompleted ?_ _ _
      refine h.mapRecords (LeavesPlace.onLabel (LineRec.asked_place st) r.label) (fun x hx => ?_)
        fun o ho x _ label eligible => ?_
      · split
        · exact (h.records x hx).asked st
        · exact h.records x hx
      · rw [if_neg fun same => free ?_]
        · exact eligible
        · exact State.occupancyOf_isSome.mpr ⟨o, ho, label.symm.trans same⟩

theorem LineRec.cleared_place : LeavesPlace LineRec.cleared := fun _ => ⟨rfl, rfl, rfl, rfl, rfl⟩

theorem State.ResultsSound.clearResults {s : State} (h : s.ResultsSound) (label : BitVec 16) (unlisted : BitVec 7) :
    (clearResults label unlisted s).1.ResultsSound := by
  unfold Machine.clearResults
  split
  · exact h
  · refine onRecord_resultsSound h fun r _ _ =>
      h.mapRecords (LineRec.cleared_place.onLabel r.label) (fun x hx => ?_) fun o _ x _ _ eligible => ?_
    · split
      · exact (h.records x hx).cleared
      · exact h.records x hx
    · split
      · exact LineRec.cleared_eligible eligible
      · exact eligible

theorem State.ResultsSound.clearResultsAll {s : State} (h : s.ResultsSound) (unlisted : BitVec 7) :
    (clearResultsAll unlisted s).1.ResultsSound := by
  unfold Machine.clearResultsAll
  split
  · exact h
  · have cleared := h.mapRecords LineRec.cleared_place (fun x hx => (h.records x hx).cleared)
      fun _ _ _ _ _ eligible => LineRec.cleared_eligible eligible
    exact cleared.of_same ⟨rfl, rfl, rfl, rfl⟩

theorem State.ResultsSound.seek {s : State} (h : s.ResultsSound) (p : Int) : (seek p s).1.ResultsSound := by
  unfold Machine.seek
  split
  · exact h
  · exact h.of_same ⟨rfl, rfl, rfl, rfl⟩

theorem State.ResultsSound.readNext {s : State} (h : s.ResultsSound) (filter : Byte) :
    (readNext filter s).1.ResultsSound := by
  unfold Machine.readNext
  split
  · exact h
  · split
    · exact h
    · exact h.of_same ⟨rfl, rfl, rfl, rfl⟩

/-- FIND_POSITION answers with an image or refuses. -/
theorem findPosition_state (s : State) (p : Int) : (findPosition p s).1 = s := by
  unfold findPosition
  split
  · rfl
  · split
    · rfl
    · split <;> rfl

end Sys2Proof.Machine

namespace Sys2Proof.Machine

/-! ### CHANGE_RECORD (R82, R83) -/

section
variable {q : ChangeReq} {r : LineRec}

theorem changePlaceBad_iff : changePlaceBad q = true ↔
    (∃ v, q.n = some v ∧ (v.toInt < -(2 ^ 46) ∨ 2 ^ 46 < v.toInt)) ∨
      ∃ v, q.w = some v ∧ (v.toInt < 1000 ∨ 50000000 < v.toInt) := by
  rw [changePlaceBad, Bool.not_eq_true', Bool.eq_false_iff, ne_eq, placeInRange_iff, signed, signed]
  cases q.n <;> cases q.w <;> simp <;> omega

theorem quotaBelow_iff {v : Option (BitVec 16)} {count : Nat} :
    quotaBelow v count = true ↔ ∃ x, v = some x ∧ x ≠ 0 ∧ x.toNat < count := by
  have zero : ∀ x : BitVec 16, x.toNat = 0 ↔ x = 0#16 := fun x => by simp [← BitVec.toNat_inj]
  cases v <;> simp [quotaBelow, zero]

theorem State.changeOccupied_eq_false {s : State} : s.changeOccupied q r = false ↔
    ∀ o, s.eng.occ = some o → o.label = r.label →
      q.n = none ∧ q.w = none ∧ (changedRecord q r).settled.eligible o.dir = true := by
  have free : s.occupancyOf r.label = none ↔ ∀ o, s.eng.occ = some o → o.label ≠ r.label := by
    simp [Option.eq_none_iff_forall_ne_some, State.occupancyOf_eq_some]
  unfold State.changeOccupied
  split
  · next e => exact ⟨fun _ o ho label => absurd label (free.mp e o ho), fun _ => rfl⟩
  · next o e =>
    obtain ⟨ho, label⟩ := State.occupancyOf_eq_some.mp e
    simp [ho, label, LineRec.settled, and_assoc]

theorem LineRec.reevaluated_eq (r : LineRec) : r.reevaluated = { r with state := r.reevaluated.state } := by
  unfold LineRec.reevaluated
  split <;> rfl

theorem LineRec.reevaluated_place : LeavesPlace LineRec.reevaluated := fun r => by
  rw [LineRec.reevaluated_eq]
  exact ⟨rfl, rfl, rfl, rfl, rfl⟩

theorem LineRec.reevaluated_of_owing (h : r.state = .armed ∨ r.state = .complete) : r.reevaluated = r.settled := by
  obtain h | h := h <;> simp [LineRec.reevaluated, h]

theorem LineRec.reevaluated_of_set_aside (h : r.state = .paused ∨ r.state = .suspect) : r.reevaluated = r := by
  obtain h | h := h <;> simp [LineRec.reevaluated, h]

theorem LineRec.Counted.reevaluated (h : r.Counted) : r.reevaluated.Sound := by
  by_cases owing : r.state = .armed ∨ r.state = .complete
  · rw [LineRec.reevaluated_of_owing owing]
    exact h.settled
  · obtain ⟨armed, complete⟩ := not_or.mp owing
    rw [LineRec.reevaluated_of_set_aside (by cases hs : r.state <;> simp_all)]
    exact h.sound complete armed

theorem LineRec.Sound.changed (h : r.Sound)
    (below : ¬quotaBelow q.quotaF r.accF.n = true ∧ ¬quotaBelow q.quotaB r.accB.n = true) :
    (changedRecord q r).Counted := by
  have quota : ∀ (v : Option (BitVec 16)) (held count : Nat), ¬quotaBelow v count = true →
      held ≤ 65535 ∧ (held ≠ 0 → count ≤ held) →
      (v.map BitVec.toNat).getD held ≤ 65535 ∧
        ((v.map BitVec.toNat).getD held ≠ 0 → count ≤ (v.map BitVec.toNat).getD held) := by
    intro v held count free old
    cases v with
    | none => exact old
    | some v =>
      refine ⟨Nat.le_of_lt_succ v.isLt, fun quota => not_lt.mp fun less => free (quotaBelow_iff.mpr ⟨v, rfl, ?_, less⟩)⟩
      rintro rfl
      exact quota rfl
  exact { h.counted with quotaF := quota _ _ _ below.1 h.quotaF, quotaB := quota _ _ _ below.2 h.quotaB }

/-- The changed N and W lie in their ranges where the ones held do (R71, R82). -/
theorem changedRecord_place (free : ¬changePlaceBad q = true) (nominal : -(2 ^ 46) ≤ r.n ∧ r.n ≤ 2 ^ 46)
    (window : 1000 ≤ r.w ∧ r.w ≤ 50000000) :
    (-(2 ^ 46) ≤ (changedRecord q r).n ∧ (changedRecord q r).n ≤ 2 ^ 46) ∧
      1000 ≤ (changedRecord q r).w ∧ (changedRecord q r).w ≤ 50000000 := by
  rw [changePlaceBad_iff] at free
  simp only [changedRecord, signed]
  cases hn : q.n <;> cases hw : q.w <;> simp [hn, hw] at free ⊢ <;> omega

end

/-- What CHANGE_RECORD leaves where no check refuses it: the record reevaluated, in its place. -/
def State.changed (s : State) (q : ChangeReq) (r : LineRec) : State :=
  (s.setRecords (insertByN (changedRecord q r).reevaluated (s.table.without r.label).records)).raiseIfCompleted r
    (changedRecord q r).reevaluated

theorem changeRecordOn_eq (q : ChangeReq) (r : LineRec) (s : State) :
    changeRecordOn q r s =
      if (changePlaceBad q || (quotaBelow q.quotaF r.accF.n || quotaBelow q.quotaB r.accB.n)) = true then
        refuse .range s
      else if s.changeOccupied q r = true then refuse .occupied s
      else if s.table.clashes r.label (changedRecord q r).n (changedRecord q r).w = true then refuse .overlap s
      else (s.changed q r, accepted false) := by
  obtain ⟨-, n, w, -⟩ := LineRec.reevaluated_place (changedRecord q r)
  unfold changeRecordOn
  dsimp only
  rw [n, w]
  cases changePlaceBad q <;> rfl

/-- A record exchanged for one of its label, put in its place (R83). -/
theorem Table.Sound.exchange {t : Table} (h : t.Sound) {r r' : LineRec} (hr : r ∈ t.records) (sound : r'.Sound)
    (label : r'.label = r.label) (nominal : -(2 ^ 46) ≤ r'.n ∧ r'.n ≤ 2 ^ 46) (window : 1000 ≤ r'.w ∧ r'.w ≤ 50000000)
    (clear : (t.without r.label).ClearOf r'.n r'.w) :
    { t with records := insertByN r' (t.without r.label).records }.Sound where
  ordered := by
    have room : (t.without r.label).records.length < 2048 :=
      (List.length_filter_lt_length_iff_exists.mpr ⟨r, hr, by simp⟩).trans_le h.ordered.depth
    have fresh : ∀ x ∈ (t.without r.label).records, x.label ≠ r'.label := fun x hx => by
      rw [label]
      exact (Table.mem_without.mp hx).2
    exact { (h.ordered.without r.label).insert room nominal window clear fresh with }
  records x hx := by
    obtain rfl | hx := mem_insertByN.mp hx
    · exact sound
    · exact h.records x (Table.mem_without.mp hx).1

/-- A change that no check refuses: an occupied record is ARMED, and the check of the occupancy leaves it eligible (R82). -/
theorem State.ResultsSound.changed {s : State} (h : s.ResultsSound) {q : ChangeReq} {r : LineRec}
    (hr : r ∈ s.table.records) (place : ¬changePlaceBad q = true)
    (below : ¬quotaBelow q.quotaF r.accF.n = true ∧ ¬quotaBelow q.quotaB r.accB.n = true)
    (occupied : s.changeOccupied q r = false)
    (clear : s.table.clashes r.label (changedRecord q r).n (changedRecord q r).w = false) :
    (s.changed q r).ResultsSound := by
  refine State.ResultsSound.raiseIfCompleted ?_ _ _
  have sound := ((h.records r hr).changed below).reevaluated
  have reevaluated := LineRec.reevaluated_of_owing (r := changedRecord q r)
  obtain ⟨label, n, w, -⟩ := LineRec.reevaluated_place (changedRecord q r)
  obtain ⟨nominal, window⟩ := changedRecord_place place (h.ordered.nominal r hr) (h.ordered.window r hr)
  rw [← n] at nominal clear
  rw [← w] at window clear
  generalize (changedRecord q r).reevaluated = r' at sound reevaluated label nominal window clear
  have exchanged := h.table.exchange hr sound label nominal window (Table.clashes_eq_false.mp clear)
  refine ⟨exchanged.ordered, exchanged.records, fun o ho => ?_⟩
  obtain ⟨x, hx, xlabel, eligible⟩ := (h.occupancy o ho).record
  by_cases same : x.label = r.label
  · obtain ⟨-, -, owing⟩ := State.changeOccupied_eq_false.mp occupied o ho (xlabel.symm.trans same)
    have armed : r.state = .armed := by
      rw [← h.ordered.eq_of_label hx hr same]
      exact (LineRec.eligible_iff.mp eligible).1
    exact { h.occupancy o ho with
      record := ⟨r', mem_insertByN.mpr (.inl rfl), label.trans (same.symm.trans xlabel),
        (reevaluated (.inl armed)).symm ▸ owing⟩ }
  · exact { h.occupancy o ho with
      record := ⟨x, mem_insertByN.mpr (.inr (Table.mem_without.mpr ⟨hx, same⟩)), xlabel, eligible⟩ }

theorem State.ResultsSound.changeRecordOn {s : State} (h : s.ResultsSound) (q : ChangeReq) {r : LineRec}
    (hr : r ∈ s.table.records) : (changeRecordOn q r s).1.ResultsSound := by
  rw [changeRecordOn_eq]
  split
  · exact h
  · next good =>
    split
    · exact h
    · next free =>
      split
      · exact h
      · next clear =>
        simp only [Bool.or_eq_true, not_or] at good
        exact h.changed hr good.1 good.2 (Bool.eq_false_iff.mpr free) (Bool.eq_false_iff.mpr clear)

theorem State.ResultsSound.changeRecord {s : State} (h : s.ResultsSound) (q : ChangeReq) :
    (changeRecord q s).1.ResultsSound := by
  unfold Machine.changeRecord
  split
  · exact h
  · exact onRecord_resultsSound h fun r hr _ => h.changeRecordOn q hr

/-! ### The port and the resets (R92, R161, R166, R174 to R176) -/

theorem State.ResultsSound.offerFrame {s : State} (h : s.ResultsSound) (f : Frame) : (s.offerFrame f).ResultsSound := by
  have accepted : (s.acceptFrame f).ResultsSound := by
    unfold State.acceptFrame
    split
    · exact Table.Sound.vacant (s := s.resetBegin) h.table rfl
    · exact h.of_same ⟨rfl, rfl, rfl, rfl⟩
  unfold State.offerFrame
  split
  · exact accepted
  · exact accepted
  · exact h.raise _
  · exact h

theorem State.ResultsSound.transaction {s : State} (h : s.ResultsSound) {judge : State → State}
    (judged : (judge s).ResultsSound) : (s.transaction judge).ResultsSound := by
  unfold State.transaction
  split
  · exact h
  · split
    · exact judged
    · exact h.of_same ⟨rfl, rfl, rfl, rfl⟩

theorem State.hardReset_resultsSound (s : State) (rstnLow : Bool) : (s.hardReset rstnLow).ResultsSound :=
  State.reset_resultsSound.of_same ⟨rfl, rfl, rfl, rfl⟩

/-- A soft reset keeps the records (R92, R175). -/
theorem State.ResultsSound.softReset {s : State} (h : s.ResultsSound) : s.softReset.ResultsSound :=
  Table.Sound.vacant ⟨{ h.ordered with }, h.records⟩ rfl

/-! ### Every command -/

theorem complete_resultsSound {i : Instr} {f : State → State × Response} {s t : State} (h : s.ResultsSound)
    (served : (f s).1.ResultsSound) (e : complete i f s = .next t) : t.ResultsSound := by
  obtain ⟨-, h'⟩ | ⟨-, h'⟩ := complete_cases i s f <;> rw [h'] at e <;> cases e
  · exact served.of_same ⟨rfl, rfl, rfl, rfl⟩
  · exact h

theorem exec_resultsSound {i : Instr} {s t : State} (h : s.ResultsSound) (e : exec i s = .next t) : t.ResultsSound := by
  have port : ∀ p, { s with port := p }.ResultsSound := fun _ => h.of_same ⟨rfl, rfl, rfl, rfl⟩
  cases i with
  | powerOn | rstnAssert =>
    cases e
    exact s.hardReset_resultsSound _
  | rstnRelease =>
    cases e
    split
    · exact s.hardReset_resultsSound _
    · exact h
  | resetPart =>
    cases e
    split
    · exact h.softReset
    · exact h
  | conversion =>
    cases e
    split
    · exact h.of_same ⟨rfl, rfl, rfl, rfl⟩
    · exact h
  | sampleCounted x =>
    cases e
    exact h.countSample x
  | bridgeCheck x | coastTimeout x | settleComplete x | saturationSet x | saturationClear x =>
    cases e
    exact h.countIf x _
  | probeComplete x =>
    cases e
    split
    · exact h.countSample x
    · exact h
  | update =>
    cases e
    exact h.update
  | envStaleCondition =>
    cases e
    split
    · exact h.update
    · exact h
  | edgeAccept level t held =>
    cases e
    split
    · exact h.confirmLevel level t
    · exact h
  | latchComplete =>
    cases e
    split
    · exact h.of_same ⟨rfl, rfl, rfl, rfl⟩
    · exact h
  | alignedSample =>
    cases e
    split
    · exact h.reachAligned
    · exact h
  | emptyTransaction bits =>
    cases e
    exact h.transaction h
  | requestFrame bytes tail =>
    cases e
    split
    · exact h.transaction (State.ResultsSound.offerFrame (port _) _)
    · exact h
  | fetch n =>
    cases e
    exact h.transaction (port _)
  | csnSeenHigh =>
    cases e
    split
    · exact h
    · exact port _
  | frameError => exact complete_resultsSound h (h.raise _) e
  | unknown | readCompensation | readTraverse | readProbe | readAttention => exact complete_resultsSound h h e
  | readChannel ch => exact complete_resultsSound h (onChannel_resultsSound h fun _ => h) e
  | readRecord label | readResult label => exact complete_resultsSound h (onRecord_resultsSound h fun _ _ _ => h) e
  | readInterval a b =>
    exact complete_resultsSound h (onRecord_resultsSound h fun _ _ _ => onRecord_resultsSound h fun _ _ _ => h) e
  | setChannel q =>
    refine complete_resultsSound h ?_ e
    unfold setChannel
    split
    · exact h
    · exact onChannel_resultsSound h (h.setChannelOn q)
  | setQuadrature q =>
    exact complete_resultsSound h (onChannel_resultsSound h fun _ => h.of_same ⟨rfl, rfl, rfl, rfl⟩) e
  | setMonitor q =>
    refine complete_resultsSound h ?_ e
    unfold setMonitor
    split
    · exact h
    · exact onChannel_resultsSound h fun _ => h.of_same ⟨rfl, rfl, rfl, rfl⟩
  | setCompensation q => exact complete_resultsSound h (h.setCompensation q) e
  | setDetector q => exact complete_resultsSound h (h.setDetector q) e
  | setTraverse q => exact complete_resultsSound h (h.setTraverse q) e
  | setAttention q => exact complete_resultsSound h (h.setAttention q) e
  | channelOn ch => exact complete_resultsSound h (onChannel_resultsSound h h.channelOnAt) e
  | channelOff ch => exact complete_resultsSound h (onChannel_resultsSound h h.channelOffAt) e
  | preset ch value => exact complete_resultsSound h (onChannel_resultsSound h (h.presetAt _)) e
  | home => exact complete_resultsSound h h.home e
  | putEnvironment q => exact complete_resultsSound h (h.putEnvironment q) e
  | anchorTracker nu unlisted => exact complete_resultsSound h (h.anchorTracker nu unlisted) e
  | startPlan count => exact complete_resultsSound h (h.startPlan _) e
  | stopPlan => exact complete_resultsSound h h.stopPlan e
  | endPass => exact complete_resultsSound h h.endPassRequest e
  | probe ch k => exact complete_resultsSound h (onChannel_resultsSound h (h.probeAt _)) e
  | insertRecord q => exact complete_resultsSound h (h.insertRecord q) e
  | changeRecord q => exact complete_resultsSound h (h.changeRecord q) e
  | retireRecord label =>
    exact complete_resultsSound h (onRecord_resultsSound h fun r _ _ => h.retireRecordOn r) e
  | setRecordState label state =>
    exact complete_resultsSound h (onRecord_resultsSound h fun r _ _ => h.setRecordStateOn state r) e
  | clearResults label unlisted => exact complete_resultsSound h (h.clearResults label unlisted) e
  | clearResultsAll unlisted => exact complete_resultsSound h (h.clearResultsAll unlisted) e
  | findPosition p => exact complete_resultsSound h (by rw [findPosition_state]; exact h) e
  | seek p => exact complete_resultsSound h (h.seek _) e
  | readNext filter => exact complete_resultsSound h (h.readNext filter) e
  | acknowledge set => exact complete_resultsSound h (h.acknowledge set) e

/-- Settles O55: an occupancy is held by an eligible record of the running pass alone, so a commit finds room below the quota, and
every pass end, exit and edit of the table leaves the three in agreement. -/
theorem stepKeepsResultsSound : Obligations.StepKeepsResultsSound := by
  intro s t h e
  unfold step at e
  split at e
  · cases e
    exact h
  · next rest _ =>
    have popped : { s with pending := rest }.ResultsSound := h.of_same ⟨rfl, rfl, rfl, rfl⟩
    exact exec_resultsSound popped e

end Sys2Proof.Machine

namespace Sys2Proof.Machine

/-! ### A request addressed to a record -/

section
variable {l : Nat} {f : LineRec → State → State × Response} {s : State}

theorem onRecord_of_none (h : s.table.find l = none) : onRecord l f s = refuse .absent s := by rw [onRecord, h]

theorem onRecord_of_some {r : LineRec} (h : s.table.find l = some r) : onRecord l f s = f r s := by rw [onRecord, h]

end

theorem Table.find_label {t : Table} {l : Nat} {r : LineRec} (h : t.find l = some r) : r.label = l := by
  unfold Table.find at h
  simpa using List.find?_some h

/-! ### INSERT_RECORD (R80, R81) -/

/-- The states that INSERT_RECORD and SET_RECORD_STATE take (R80, R85). -/
theorem askedState_eq (b : Byte) : askedState b = if b = 0 then some .armed else if b = 1 then some .paused else none := by
  by_cases zero : b = 0
  · subst zero
    rfl
  · by_cases one : b = 1
    · subst one
      rfl
    · rw [if_neg zero, if_neg one]
      have notZero : b.toNat ≠ 0 := fun e => zero (BitVec.eq_of_toNat_eq e)
      have notOne : b.toNat ≠ 1 := fun e => one (BitVec.eq_of_toNat_eq e)
      unfold askedState recStateOf
      split
      · next e => split at e <;> simp_all
      · next e => split at e <;> simp_all
      · rfl

theorem insertRecord_of_asked {q : InsertReq} {st : RecState} (s : State)
    (place : placeInRange q.n.toInt q.w.toInt = true) (asked : askedState q.state = some st) :
    insertRecord q s =
      if Config.tableDepth ≤ s.table.records.length then refuse .full s
      else if (s.table.find q.label.toNat).isSome then refuse .exists s
      else if s.table.clashes q.label.toNat q.n.toInt q.w.toInt then refuse .overlap s
      else (s.setRecords (insertByN (newRecord q st) s.table.records), accepted false) := by
  simp only [insertRecord, place, asked]

theorem insertRecord_of_not_asked {q : InsertReq} (s : State)
    (h : ¬(placeInRange q.n.toInt q.w.toInt = true ∧ ∃ st, askedState q.state = some st)) :
    insertRecord q s = refuse .range s := by
  unfold insertRecord
  split
  · next place asked => exact absurd ⟨place, _, asked⟩ h
  · rfl

/-- A window clear of those of the other records is clear of all where no record has the label. -/
theorem Table.clashes_iff_of_absent {t : Table} {label : Nat} (absent : ∀ r ∈ t.records, r.label ≠ label) {n w : Int} :
    t.clashes label n w = true ↔ ∃ r ∈ t.records, n - w ≤ r.n + r.w ∧ r.n - r.w ≤ n + w := by
  simp only [Table.clashes, List.any_eq_true, Bool.and_eq_true, decide_eq_true_eq, windowsClash_iff]
  exact exists_congr fun r => and_congr_right fun hr => and_iff_right (absent r hr)

/-- Settles O36: the checks as the branches of INSERT_RECORD; the place by `Table.exists_place`. -/
theorem insertKeepsTheOrder : Obligations.InsertKeepsTheOrder := by
  intro q s awaited n w recs refused inRange held clash
  have run := complete_of_awaits awaited (insertRecord q)
  have refusal : ∀ st, insertRecord q s = refuse st s → refused st := fun st e => run.trans (by rw [e]; rfl)
  have taken : inRange → insertRecord q s = _ := fun ⟨n0, n1, w0, w1, states⟩ =>
    insertRecord_of_asked (st := if q.state = 0 then .armed else .paused) s
      (placeInRange_iff.mpr ⟨⟨n0, n1⟩, w0, w1⟩) (by rw [askedState_eq]; obtain e | e := states <;> simp [e])
  have found : held ↔ (s.table.find q.label.toNat).isSome = true := by
    rw [Option.isSome_iff_ne_none, ne_eq, Table.find_eq_none]
    simp [held, recs]
  have roomy : inRange → recs.length < 2048 → insertRecord q s = _ := fun good room =>
    (taken good).trans (if_neg (not_le.mpr room))
  have fresh : inRange → recs.length < 2048 → ¬held → insertRecord q s = _ := fun good room absent =>
    (roomy good room).trans (if_neg (mt found.mpr absent))
  have clashes : ¬held → (s.table.clashes q.label.toNat n w = true ↔ clash) := fun absent =>
    Table.clashes_iff_of_absent fun r hr label => absent ⟨r, hr, label⟩
  refine ⟨fun bad => refusal _ (insertRecord_of_not_asked s fun ⟨place, st, asked⟩ => bad ?_),
    fun good full => refusal _ ((taken good).trans (if_pos full)),
    fun good room here => refusal _ ((roomy good room).trans (if_pos (found.mp here))),
    fun good room absent here => refusal _ ((fresh good room absent).trans (if_pos ((clashes absent).mpr here))),
    fun good room absent free => ?_⟩
  · obtain ⟨⟨n0, n1⟩, w0, w1⟩ := placeInRange_iff.mp place
    refine ⟨n0, n1, w0, w1, ?_⟩
    by_contra neither
    obtain ⟨zero, one⟩ := not_or.mp neither
    rw [askedState_eq, if_neg zero, if_neg one] at asked
    cases asked
  · obtain ⟨before, after, inserted, parts, place⟩ :=
      s.table.exists_place (newRecord q (if q.state = 0 then .armed else .paused))
    have ⟨_, _, w0, _⟩ := good
    refine ⟨before, after, parts, fun ordered => place ordered ((by decide : (0 : Int) ≤ 1000).trans w0)
      fun r hr overlap => free ⟨r, hr, overlap⟩, run.trans ?_⟩
    rw [(fresh good room absent).trans (if_neg (mt (clashes absent).mp free)), inserted]
    rfl

/-! ### The checks of CHANGE_RECORD and the record it leaves (R82, R83) -/

section
variable {q : ChangeReq} {r : LineRec}

/-- The occupied record may neither move nor reach the end of its quota in the direction of the pass (R82). -/
theorem State.changeOccupied_iff {s : State} {finished : Prop} (quotas : (changedRecord q r).finished = true ↔ finished) :
    s.changeOccupied q r = true ↔ ∃ o, s.eng.occ = some o ∧ o.label = r.label ∧
      (q.n ≠ none ∨ q.w ≠ none ∨ finished ∨
        ((changedRecord q r).quota o.dir ≠ 0 ∧ ((changedRecord q r).acc o.dir).n = (changedRecord q r).quota o.dir)) := by
  have owing : ∀ d, (changedRecord q r).settled.eligible d = true ↔ ¬finished ∧
      ¬((changedRecord q r).quota d ≠ 0 ∧ ((changedRecord q r).acc d).n = (changedRecord q r).quota d) := fun d => by
    rw [LineRec.eligible_iff, ← quotas, not_and]
    refine and_congr ?_ (by cases d <;> rfl)
    simp [LineRec.settled, LineRec.settledState]
  rw [← not_iff_not, Bool.not_eq_true, State.changeOccupied_eq_false]
  simp only [owing, not_exists, not_and, not_or, ne_eq, not_not]

end

theorem LineRec.reevaluated_state (r : LineRec) :
    (r.state = .armed ∨ r.state = .complete →
      (r.finished = true → r.reevaluated.state = .complete) ∧ (¬r.finished = true → r.reevaluated.state = .armed)) ∧
    (r.state = .paused ∨ r.state = .suspect → r.reevaluated.state = r.state) := by
  refine ⟨fun owing => ?_, fun aside => by rw [LineRec.reevaluated_of_set_aside aside]⟩
  rw [LineRec.reevaluated_of_owing owing]
  exact ⟨fun h => if_pos h, fun h => if_neg h⟩

/-- Settles O37: the checks as the branches of CHANGE_RECORD; the place by `Table.exists_place` in the table without the
record. -/
theorem changeRecordMovesOneRecord : Obligations.ChangeRecordMovesOneRecord := by
  intro q s awaited listed refused
  have run : exec (.changeRecord q) s = .next
      ((onRecord q.label.toNat (changeRecordOn q) s).1.respond (onRecord q.label.toNat (changeRecordOn q) s).2) :=
    (complete_of_awaits awaited (changeRecord q)).trans (by rw [changeRecord, if_neg (not_not.mpr listed)])
  refine ⟨fun absent => run.trans (by rw [onRecord_of_none absent]; rfl), fun r hr => ?_⟩
  intro n w quotaF quotaB place below finished ended occupied clash
  rw [onRecord_of_some hr, changeRecordOn_eq] at run
  have quotas : (changedRecord q r).finished = true ↔ finished := LineRec.finished_iff
  have outside : (changePlaceBad q || (quotaBelow q.quotaF r.accF.n || quotaBelow q.quotaB r.accB.n)) = true ↔
      place ∨ below := by
    rw [Bool.or_eq_true, Bool.or_eq_true, changePlaceBad_iff, quotaBelow_iff, quotaBelow_iff]
  have held : s.changeOccupied q r = true ↔ occupied := by
    rw [State.changeOccupied_iff quotas]
    refine exists_congr fun o => and_congr_right fun _ => and_congr_right fun _ => or_congr_right (or_congr_right ?_)
    cases o.dir <;> simp [ended, changedRecord, LineRec.quota, LineRec.acc, quotaF, quotaB]
  have clashes : s.table.clashes r.label (changedRecord q r).n (changedRecord q r).w = true ↔ clash := by
    simp only [Table.clashes, List.any_eq_true, Bool.and_eq_true, decide_eq_true_eq, windowsClash_iff]
    rfl
  refine ⟨fun bad => ?_, fun good here => ?_, fun good free here => ?_, fun good free clear => ?_⟩
  · rw [if_pos (outside.mpr bad)] at run
    exact run
  all_goals rw [if_neg (mt outside.mp good)] at run
  · rw [if_pos (held.mpr here)] at run
    exact run
  all_goals rw [if_neg (mt held.mp free)] at run
  · rw [if_pos (clashes.mpr here)] at run
    exact run
  rw [if_neg (mt clashes.mp clear)] at run
  obtain ⟨before, after, inserted, parts, apart⟩ :=
    (s.table.without r.label).exists_place (changedRecord q r).reevaluated
  obtain ⟨owing, aside⟩ := LineRec.reevaluated_state (changedRecord q r)
  rw [quotas] at owing
  refine ⟨before, after, (changedRecord q r).reevaluated.state, parts.symm, fun ordered => ?_, owing, aside, ?_⟩
  · rw [LineRec.reevaluated_eq] at apart
    obtain ⟨member, -⟩ := (Table.find_eq_some ordered.labels).mp hr
    obtain ⟨-, w0, -⟩ := changedRecord_place (q := q) (fun bad => good (.inl (changePlaceBad_iff.mp bad)))
      (ordered.nominal r member) (ordered.window r member)
    exact apart (ordered.without _) ((by decide : (0 : Int) ≤ 1000).trans w0)
      (Table.clashes_eq_false.mp (Bool.eq_false_iff.mpr (mt clashes.mp clear)))
  · rw [run, State.changed, State.raiseIfCompleted, inserted, LineRec.reevaluated_eq]
    rfl

end Sys2Proof.Machine

namespace Sys2Proof.Machine

/-! ### RETIRE_RECORD, SET_RECORD_STATE and CLEAR_RESULTS (R84 to R87) -/

/-- The records of a label are one record, so operations that agree on it change the table alike (R72). -/
theorem Table.Ordered.modify_congr {t : Table} (h : t.Ordered) {l : Nat} {r : LineRec} (hr : t.find l = some r)
    {f g : LineRec → LineRec} (same : f r = g r) : t.modify l f = t.modify l g := by
  obtain ⟨member, rfl⟩ := (Table.find_eq_some h.labels).mp hr
  unfold Table.modify
  congr 1
  refine List.map_congr_left fun x hx => ?_
  by_cases label : x.label = r.label
  · rw [h.eq_of_label hx member label, if_pos rfl, if_pos rfl, same]
  · rw [if_neg label, if_neg label]

theorem Table.modify_id (t : Table) (label : Nat) : t.modify label id = t := by
  simp [Table.modify]

/-- An ARMED or COMPLETE record asked to be ARMED stays as it is (R85). -/
theorem LineRec.asked_armed_of_owing {r : LineRec} (h : r.state = .armed ∨ r.state = .complete) : r.asked .armed = r := by
  obtain h | h := h <;> simp [LineRec.asked, LineRec.armed, h]

/-- A record put to work again: it takes its settled state, a SUSPECT one with no misses (R85). -/
def LineRec.rearmed (r : LineRec) : LineRec :=
  { r with
    misses := if r.state = .suspect then 0 else r.misses
    state := if r.finished then .complete else .armed }

/-- A PAUSED or SUSPECT record asked to be ARMED is put to work again (R85). -/
theorem LineRec.asked_armed_of_set_aside {r : LineRec} (h : r.state = .paused ∨ r.state = .suspect) :
    r.asked .armed = r.rearmed := by
  obtain h | h := h <;> simp only [LineRec.asked, LineRec.armed, LineRec.rearmed, h] <;> rfl

theorem LineRec.cleared_eq (r : LineRec) : r.cleared = { r with
    accF := ⟨0, 0, 0, none⟩, accB := ⟨0, 0, 0, none⟩, last := none, misses := 0, rejects := ⟨0, 0, 0, 0, 0, 0⟩
    state := if r.state = .complete ∨ r.state = .suspect then .armed else r.state } := by
  cases h : r.state <;> simp only [LineRec.cleared, h] <;> rfl

theorem State.raiseIfCompleted_of_not {s : State} {before after : LineRec}
    (h : before.state = .complete ∨ after.state ≠ .complete) : s.raiseIfCompleted before after = s :=
  if_neg fun entered => h.elim entered.1 fun no => no entered.2

/-- A record put to work again enters COMPLETE where its quotas are met (R75, R85). -/
theorem State.raiseIfCompleted_rearmed (s : State) {r : LineRec} (aside : r.state = .paused ∨ r.state = .suspect) :
    s.raiseIfCompleted r r.rearmed = if r.finished then s.raise (.recComplete r.label) else s := by
  have entered : r.state ≠ .complete ∧ r.rearmed.state = .complete ↔ r.finished = true := by
    obtain e | e := aside <;> simp [e, LineRec.rearmed]
  exact if_congr entered rfl rfl

section
variable {s : State} {l : Nat} {r : LineRec}

theorem retireRecordOn_of_occupied (label : r.label = l) (occupied : ∃ o, s.eng.occ = some o ∧ o.label = l) :
    retireRecordOn r s = ((s.setRecords (s.table.without l).records).vacate, accepted false) := by
  subst label
  exact congrArg (·, accepted false) (if_pos (State.occupancyOf_isSome.mpr occupied))

theorem retireRecordOn_of_free (label : r.label = l) (free : ¬∃ o, s.eng.occ = some o ∧ o.label = l) :
    retireRecordOn r s = (s.setRecords (s.table.without l).records, accepted false) := by
  subst label
  exact congrArg (·, accepted false) (if_neg (mt State.occupancyOf_isSome.mp free))

variable {b : Byte}

theorem setRecordStateOn_of_not_asked (h : 1 < b.toNat) : setRecordStateOn b r s = refuse .range s := by
  rw [setRecordStateOn, askedState_eq, if_neg (by rintro rfl; simp at h), if_neg (by rintro rfl; simp at h)]

theorem setRecordStateOn_of_occupied (asked : b.toNat ≤ 1) (label : r.label = l)
    (occupied : ∃ o, s.eng.occ = some o ∧ o.label = l) : setRecordStateOn b r s = refuse .occupied s := by
  subst label
  have named : b = 0 ∨ b = 1 := by
    obtain e | e : b.toNat = 0 ∨ b.toNat = 1 := by omega
    · exact .inl (BitVec.eq_of_toNat_eq e)
    · exact .inr (BitVec.eq_of_toNat_eq e)
  obtain rfl | rfl := named <;> exact if_pos (State.occupancyOf_isSome.mpr occupied)

/-- SET_RECORD_STATE on a record that is not occupied, with a state it takes (R85). -/
theorem setRecordStateOn_of_free {st : RecState} (asked : askedState b = some st) (label : r.label = l)
    (free : ¬∃ o, s.eng.occ = some o ∧ o.label = l) :
    setRecordStateOn b r s =
      ({ s with table := s.table.modify l fun x => x.asked st }.raiseIfCompleted r (r.asked st), accepted false) := by
  subst label
  rw [setRecordStateOn, asked]
  exact if_neg (mt State.occupancyOf_isSome.mp free)

end

/-- Settles O38: each edit acts on the record found by its label, the only one of it in an ordered table. -/
theorem recordEditsAddressOneRecord : Obligations.RecordEditsAddressOneRecord := by
  intro l s recs done cleared change
  have clearing : LineRec.cleared = cleared := funext LineRec.cleared_eq
  have retire := fun awaited => complete_of_awaits (i := .retireRecord l) (s := s) awaited (onRecord l.toNat retireRecordOn)
  have setState := fun b awaited =>
    complete_of_awaits (i := .setRecordState l b) (s := s) awaited (onRecord l.toNat (setRecordStateOn b))
  have clear := fun awaited => complete_of_awaits (i := .clearResults l 0) (s := s) awaited (clearResults l 0)
  rw [clearResults, if_neg (by simp)] at clear
  refine ⟨fun absent => ?_, fun r hr => ?_, fun awaited => ?_⟩
  · simp only [onRecord_of_none absent] at retire setState clear
    exact ⟨retire, setState, clear⟩
  · intro occupied
    have label : r.label = l.toNat := Table.find_label hr
    simp only [onRecord_of_some hr] at retire setState clear
    refine ⟨fun awaited => ⟨fun here => ?_, fun free => ?_⟩, fun b awaited => ⟨fun bad => ?_, fun good here => ?_,
      fun free paused => ?_, fun free armed => ⟨fun owing => ?_, fun ordered aside => ?_⟩⟩, fun awaited => ?_⟩
    · rw [retireRecordOn_of_occupied label here] at retire
      exact retire awaited
    · rw [retireRecordOn_of_free label free] at retire
      exact retire awaited
    · exact (setState b awaited).trans (by rw [setRecordStateOn_of_not_asked bad]; rfl)
    · exact (setState b awaited).trans (by rw [setRecordStateOn_of_occupied good label here]; rfl)
    · subst paused
      refine (setState 1 awaited).trans ?_
      rw [setRecordStateOn_of_free rfl label free, State.raiseIfCompleted_of_not (.inr (by simp [LineRec.asked]))]
      rfl
    · subst armed
      refine ⟨_, setState 0 awaited, fun ordered => ?_⟩
      have kept := LineRec.asked_armed_of_owing owing
      rw [setRecordStateOn_of_free rfl label free, kept,
        State.raiseIfCompleted_of_not (by obtain e | e := owing <;> simp [e]), ordered.modify_congr (g := id) hr kept,
        Table.modify_id]
      rfl
    · subst armed
      intro s'
      have rearmed := LineRec.asked_armed_of_set_aside aside
      refine (setState 0 awaited).trans ?_
      rw [setRecordStateOn_of_free rfl label free, ordered.modify_congr (g := LineRec.rearmed) hr rearmed, rearmed,
        State.raiseIfCompleted_rearmed _ aside, label]
      rfl
    · exact (clear awaited).trans (by rw [clearResultsOn, clearing, label]; rfl)
  · refine (complete_of_awaits awaited (clearResultsAll 0)).trans ?_
    rw [clearResultsAll, if_neg (by simp), clearing]
    rfl

end Sys2Proof.Machine

namespace Sys2Proof.Machine

/-! ### Lookups and the scan cursor (R89 to R91) -/

theorem keyInRange_iff {p : Int} : keyInRange p = true ↔ |p| ≤ 2 ^ 47 - 1 := by
  rw [keyInRange, Bool.and_eq_true, decide_eq_true_eq, decide_eq_true_eq, abs_le]
  rfl

/-- One record is nearer to a position than another, or as near and of the lower N (R89). -/
def LineRec.NearerTo (p : Int) (r y : LineRec) : Prop := |r.n - p| < |y.n - p| ∨ (|r.n - p| = |y.n - p| ∧ r.n ≤ y.n)

/-- The records of an ordered list are taken up by `nearer` one after another: what it holds is a record of the list, and nearest
of all so far. -/
theorem foldl_nearer {p : Int} {b : LineRec} {rs : List LineRec} (ascending : (b :: rs).Pairwise fun x y => x.n < y.n) :
    ∃ r ∈ b :: rs, rs.foldl (nearer p) (some b) = some r ∧ ∀ y ∈ b :: rs, r.NearerTo p y := by
  induction rs using List.reverseRecOn with
  | nil => exact ⟨b, by simp, rfl, by simp [LineRec.NearerTo]⟩
  | append_singleton rs x ih =>
    rw [← List.cons_append] at ascending
    obtain ⟨before, -, last⟩ := List.pairwise_append.mp ascending
    obtain ⟨r, hr, folded, nearest⟩ := ih before
    have below : r.n < x.n := last r hr x (by simp)
    rw [List.foldl_append, folded, ← List.cons_append]
    simp only [List.foldl_cons, List.foldl_nil, nearer, mag_eq_abs]
    by_cases closer : |x.n - p| < |r.n - p|
    · refine ⟨x, by simp, if_pos closer, fun y hy => ?_⟩
      obtain hy | hy := List.mem_append.mp hy
      · have := nearest y hy
        unfold LineRec.NearerTo at this ⊢
        omega
      · obtain rfl := List.mem_singleton.mp hy
        exact .inr ⟨rfl, le_rfl⟩
    · refine ⟨r, List.mem_append_left _ hr, if_neg closer, fun y hy => ?_⟩
      obtain hy | hy := List.mem_append.mp hy
      · exact nearest y hy
      · obtain rfl := List.mem_singleton.mp hy
        unfold LineRec.NearerTo
        omega

/-- In an ordered table N ascends (R72). -/
theorem Table.Ordered.ascending {t : Table} (h : t.Ordered) : t.records.Pairwise fun x y => x.n < y.n :=
  h.apart.imp_of_mem fun hx hy apart => by
    have := h.window _ hx
    have := h.window _ hy
    omega

/-- In an ordered table a record of a value of N is the only one of it (R72). -/
theorem Table.Ordered.eq_of_n {t : Table} (h : t.Ordered) {r r' : LineRec} (hr : r ∈ t.records) (hr' : r' ∈ t.records)
    (same : r.n = r'.n) : r = r' := by
  by_contra ne
  have := h.apart_of_ne hr hr' ne
  have := h.window r hr
  have := h.window r' hr'
  omega

/-- The nearest record of an ordered table (R89). -/
theorem Table.Ordered.nearest_eq {t : Table} (h : t.Ordered) {p : Int} {r : LineRec} (hr : r ∈ t.records)
    (nearest : ∀ y ∈ t.records, r.NearerTo p y) : t.nearest p = some r := by
  have ascending := h.ascending
  have unique := fun r' hr' => h.eq_of_n (r := r) (r' := r') hr hr'
  unfold Table.nearest
  cases records : t.records with
  | nil => simp [records] at hr
  | cons b rs =>
    rw [records] at ascending hr nearest unique
    obtain ⟨r', hr', folded, nearest'⟩ := foldl_nearer (p := p) ascending
    have far := nearest r' hr'
    have near := nearest' r hr
    unfold LineRec.NearerTo at far near
    rw [unique r' hr' (by omega)]
    exact folded

/-- The first record beyond the cursor that the filter names is the one of least N (R91). -/
theorem Table.Ordered.nextRecord_eq {t : Table} (h : t.Ordered) {filter : Byte} {wanted : LineRec → Prop}
    (names : ∀ r, (t.beyond r && filterHas filter r.state) = true ↔ wanted r) {r : LineRec} (hr : r ∈ t.records)
    (beyond : wanted r) (least : ∀ y ∈ t.records, wanted y → r.n ≤ y.n) : t.nextRecord filter = some r := by
  unfold Table.nextRecord
  cases e : t.records.find? fun r => t.beyond r && filterHas filter r.state with
  | none => exact absurd ((names r).mpr beyond) (List.find?_eq_none.mp e r hr)
  | some y =>
    obtain ⟨found, before, after, parts, skipped⟩ := List.find?_eq_some_iff_append.mp e
    have hy : y ∈ t.records := List.mem_of_find?_eq_some e
    have ascending := h.ascending
    rw [parts] at ascending hr
    have first : y.n ≤ r.n := by
      obtain hr | hr := List.mem_append.mp hr
      · have := skipped r hr
        rw [(names r).mpr beyond] at this
        simp at this
      · obtain rfl | hr := List.mem_cons.mp hr
        · exact le_rfl
        · exact ((List.pairwise_cons.mp (List.pairwise_append.mp ascending).2.1).1 r hr).le
    rw [h.eq_of_n hy (parts ▸ hr) (le_antisymm first (least y hy ((names y).mp found)))]

/-- Settles O39: the windows of an ordered table are apart and N ascends, so the first record found is the one of the rule. -/
theorem lookupsFollowTheOrder : Obligations.LookupsFollowTheOrder := by
  intro s ordered recs
  refine ⟨fun p awaited => ?_, fun p awaited => ?_, fun f awaited => ?_⟩
  · intro x
    have run := complete_of_awaits awaited (findPosition p.toInt)
    refine ⟨fun out => run.trans ?_, fun inside => ⟨fun nothing => run.trans ?_, fun r hr low high => run.trans ?_,
      fun r hr missed nearest => run.trans ?_⟩⟩
    · rw [findPosition, if_pos (Bool.eq_false_iff.mpr (mt keyInRange_iff.mp (not_le.mpr out)))]
      rfl
    all_goals rw [findPosition, if_neg (by rw [keyInRange_iff.mpr inside]; simp)]
    · have empty : s.table.records = [] := nothing
      rw [Table.at, Table.nearest, empty]
      rfl
    · rw [(Table.at_eq_some ordered).mpr ⟨hr, low, high⟩]
      rfl
    · have outside : s.table.at p.toInt = none := Option.eq_none_iff_forall_ne_some.mpr fun y hy => by
        obtain ⟨member, held⟩ := (Table.at_eq_some ordered).mp hy
        have := missed y member
        omega
      rw [outside, ordered.nearest_eq hr nearest]
      rfl
  · have run := complete_of_awaits awaited (seek p.toInt)
    refine ⟨fun out => run.trans ?_, fun inside => run.trans ?_⟩
    · rw [seek, if_pos (Bool.eq_false_iff.mpr (mt keyInRange_iff.mp (not_le.mpr out)))]
      rfl
    · rw [seek, if_neg (by rw [keyInRange_iff.mpr inside]; simp)]
      rfl
  · intro beyond
    have run := complete_of_awaits awaited (readNext f)
    have names : ∀ r, (s.table.beyond r && filterHas f r.state) = true ↔ beyond r := fun r => by
      rw [Bool.and_eq_true]
      refine and_congr ?_ ?_
      · unfold Table.beyond
        split <;> exact decide_eq_true_iff
      · unfold filterHas
        cases r.state <;> rfl
    have filters : filterNames f = true ↔ f ≠ 0 ∧ f.toNat < 16 := by
      rw [filterNames, Bool.and_eq_true, decide_eq_true_eq, decide_eq_true_eq]
    refine ⟨fun bad => run.trans ?_, fun nonzero small =>
      ⟨fun nothing => run.trans ?_, fun r hr wanted least => run.trans ?_⟩⟩
    · rw [readNext, if_pos (Bool.eq_false_iff.mpr fun good => ?_)]
      · rfl
      · obtain ⟨nonzero, small⟩ := filters.mp good
        exact bad.elim nonzero (not_le.mpr small)
    all_goals rw [readNext, if_neg (by rw [filters.mpr ⟨nonzero, small⟩]; simp)]
    · have last : s.table.nextRecord f = none := List.find?_eq_none.mpr fun r hr wanted => nothing r hr ((names r).mp wanted)
      rw [last]
      rfl
    · rw [ordered.nextRecord_eq names hr wanted least]
      rfl

end Sys2Proof.Machine

namespace Sys2Proof.Machine

/-! ### The occupancy that a spoiling, a discarded pulse and a pass end leave (R105, R118, R121, R125) -/

/-- The occupancy once it is spoiled: an outcome already SPOILED keeps its first reason (R121). -/
def Occ.spoiledBy (o : Occ) (reason : Reject) : Occ :=
  { o with outcome := match o.outcome with
    | .spoiled r => .spoiled r
    | _ => .spoiled reason }

theorem Occ.spoiledBy_of_unspoiled {o : Occ} (h : ∀ r, o.outcome ≠ .spoiled r) (reason : Reject) :
    o.spoiledBy reason = { o with outcome := .spoiled reason } := by
  unfold Occ.spoiledBy
  split
  · next r spoiled => exact absurd spoiled (h r)
  · rfl

@[simp] theorem Occ.spoiledBy_spoiledBy (o : Occ) (first second : Reject) :
    (o.spoiledBy first).spoiledBy second = o.spoiledBy first := by
  obtain ⟨label, side, dir, outcome, pending⟩ := o
  cases outcome <;> rfl

theorem State.spoil_eq (s : State) (reason : Reject) :
    s.spoil reason = { s with eng := { s.eng with occ := s.eng.occ.map (·.spoiledBy reason) } } := by
  unfold State.spoil
  split
  · next vacant => rw [vacant, Option.map_none, ← vacant]
  · next o held =>
    split
    · next r spoiled =>
      have same : o.spoiledBy reason = o := by
        simp only [Occ.spoiledBy, spoiled]
        rw [← spoiled]
      rw [held, Option.map_some, same, ← held]
    · next unspoiled => rw [held, Option.map_some, Occ.spoiledBy_of_unspoiled unspoiled]

/-- The occupancy held when an open pulse is discarded (R118). -/
def Engine.occWithoutPulse (e : Engine) (reason : Reject) : Option Occ :=
  if e.pulse = none then e.occ else e.occ.map (·.spoiledBy reason)

theorem State.dropPulse_eq (s : State) (reason : Reject) :
    s.dropPulse reason = { s with eng := { s.eng with pulse := none, occ := s.eng.occWithoutPulse reason } } := by
  unfold State.dropPulse Engine.occWithoutPulse
  split
  · next closed => rw [if_pos closed, ← closed]
  · next opened => rw [if_neg (by simp [opened]), State.spoil_eq]

theorem State.closeOccupancy_of_none {s : State} (vacant : s.eng.occ = none) (kind : EndKind) :
    s.closeOccupancy kind = s := by
  simp [State.closeOccupancy, vacant]

theorem State.closeOccupancy_of_some {s : State} {o : Occ} (held : s.eng.occ = some o) (kind : EndKind) :
    s.closeOccupancy kind =
      ((s.vacate).tally o.label (o.endReason kind)).note (.reject o.label (o.endReason kind)) := by
  simp [State.closeOccupancy, held]

/-! ### The plan (R105 steps 4 and 5) -/

/-- A pass end completes the plan: it counts toward the last pass, outside a STOP_PLAN (R96, R105). -/
def Traverse.completes (t : Traverse) (kind : EndKind) (inStop : Bool) : Bool :=
  t.debited kind && decide (t.remaining = 1) && !inStop

/-- The controller once a pass end is accounted. -/
def Traverse.accounted (t : Traverse) (kind : EndKind) (inStop : Bool) : Traverse :=
  { t with
    broken := if kind = .broken then min 65535 (t.broken + 1) else t.broken
    remaining := if t.debited kind then t.remaining - 1 else t.remaining
    ctl := if t.completes kind inStop then .idle else t.ctl }

theorem Traverse.debited_iff {t : Traverse} {kind : EndKind} :
    t.debited kind = true ↔ t.counted = true ∧ kind ≠ .broken ∧ t.remaining ≠ 0 := by
  simp [Traverse.debited, and_assoc]

theorem Traverse.completes_iff {t : Traverse} {kind : EndKind} {inStop : Bool} :
    t.completes kind inStop = true ↔ t.debited kind = true ∧ t.remaining = 1 ∧ inStop = false := by
  simp [Traverse.completes, and_assoc]

theorem State.accountPlan_eq (s : State) (kind : EndKind) (inStop : Bool) :
    s.accountPlan kind inStop =
      if s.trav.completes kind inStop then { s with trav := s.trav.accounted kind inStop }.note (.planDone false)
      else { s with trav := s.trav.accounted kind inStop } := by
  have broken : brokenAfter kind s.trav.broken = if kind = .broken then min 65535 (s.trav.broken + 1) else s.trav.broken := by
    rw [brokenAfter, satInc_eq_min]
  unfold State.accountPlan Traverse.accounted
  rw [broken]
  by_cases debited : s.trav.debited kind = true
  · by_cases last : s.trav.remaining = 1 ∧ inStop = false
    · simp only [if_pos last, Traverse.completes_iff.mpr ⟨debited, last⟩, debited, if_true]
      rw [last.1]
    · have runs : s.trav.completes kind inStop = false :=
        Bool.eq_false_iff.mpr fun h => last (Traverse.completes_iff.mp h).2
      simp only [debited, last, runs, if_true, if_false, Bool.false_eq_true]
  · have runs : s.trav.completes kind inStop = false :=
      Bool.eq_false_iff.mpr fun h => debited (Traverse.completes_iff.mp h).1
    simp only [debited, runs, if_false, Bool.false_eq_true]

theorem State.accountPlan_source_ne (s : State) (kind : EndKind) (inStop : Bool) {i : Fin 16} (h : i ≠ 10) :
    (s.accountPlan kind inStop).source i = s.source i := by
  rw [State.accountPlan_eq]
  split
  · exact State.source_note_ne _ (d := .planDone false) h
  · rfl

theorem State.accountPlan_source_planDone (s : State) (kind : EndKind) (inStop : Bool) :
    (s.accountPlan kind inStop).source 10 =
      if s.trav.completes kind inStop then (s.source 10).raise (.planDone false) else s.source 10 := by
  rw [State.accountPlan_eq]
  split
  · exact State.source_note_self _ (.planDone false)
  · rfl

/-! ### The PASS-HOLD step (R61) -/

theorem State.passHoldStep_of_ne {s : State} (h : s.comp.forcePolicy ≠ .passHold) : s.passHoldStep = s := if_neg h

/-- The values applied are the targets, and every M is formed from the index among them. -/
theorem State.passHoldStep_of_passHold {s : State} (h : s.comp.forcePolicy = .passHold) :
    s.passHoldStep.comp.nuApplied = s.comp.nuTarget ∧ s.passHoldStep.comp.tApplied = s.comp.steppedT ∧
      ∀ f : Fin 4,
        s.passHoldStep.comp.factors[f] = lengthFactor (s.chan f).lambda (s.chan f).passK s.comp.nuTarget := by
  rw [State.passHoldStep, if_pos h]
  refine ⟨by simp, by simp, fun f => ?_⟩
  rw [State.refactorAll_factor, State.factorOf, State.chan_congr (s.applyValues_chans _ _), State.applyValues_comp]

/-! ### A pass end by its steps (R105) -/

/-- The part after steps 1 to 3 of a pass end: out of RUNNING, the open pulse and the occupancy closed, the PASS-HOLD step
taken. -/
def State.closedPass (s : State) (kind : EndKind) : State :=
  (((s.leaveRunning).dropPulse .interrupted).closeOccupancy kind).passHoldStep

theorem State.endPass_of_running {s : State} (running : s.trav.ctl = .running) (kind : EndKind) (inStop : Bool) :
    s.endPass kind inStop =
      ((s.closedPass kind).accountPlan kind inStop).note (.passEnd s.trav.passNo (s.trav.dir.getD .fwd) kind) :=
  if_pos ((State.running_iff s).mpr running)

theorem State.closedPass_trav (s : State) (kind : EndKind) :
    (s.closedPass kind).trav = { s.trav with ctl := .waiting, ring := (s.closedPass kind).trav.ring } := by
  rw [State.closedPass, State.passHoldStep_trav, State.closeOccupancy_trav, State.dropPulse_trav, State.leaveRunning_trav]

/-- The occupancy that a pass end finds to close. -/
theorem State.leaveRunning_dropPulse_occ (s : State) (reason : Reject) :
    ((s.leaveRunning).dropPulse reason).eng.occ = s.eng.occWithoutPulse reason := by
  rw [State.dropPulse_eq]
  rfl

theorem State.closedPass_of_vacant {s : State} (vacant : s.eng.occ = none) (kind : EndKind) :
    (s.closedPass kind).table = s.table ∧ (s.closedPass kind).att = s.att := by
  have none : ((s.leaveRunning).dropPulse .interrupted).eng.occ = none := by
    rw [State.leaveRunning_dropPulse_occ, Engine.occWithoutPulse, vacant, Option.map_none, ite_self]
  rw [State.closedPass, State.closeOccupancy_of_none none]
  simp

/-- The reason that the occupancy counts when a pass ends: its own, or the open pulse's discard, or the end's (R105, R118). -/
def Occ.countedReason (o : Occ) (pulse : Option OpenPulse) (kind : EndKind) : Reject :=
  match o.outcome with
  | .spoiled r => r
  | _ => if pulse ≠ none then .interrupted else if kind = .turn then .reversal else .interrupted

theorem Occ.endReason_eq_countedReason (o : Occ) (kind : EndKind) : o.endReason kind = o.countedReason none kind := by
  unfold Occ.endReason Occ.countedReason
  cases o.outcome <;> rfl

theorem Occ.endReason_spoiledBy (o : Occ) (pulse : OpenPulse) (kind : EndKind) :
    (o.spoiledBy .interrupted).endReason kind = o.countedReason (some pulse) kind := by
  unfold Occ.endReason Occ.spoiledBy Occ.countedReason
  cases o.outcome <;> rfl

theorem State.closedPass_of_occupied {s : State} {o : Occ} (held : s.eng.occ = some o) (kind : EndKind) :
    (s.closedPass kind).table =
        s.table.modify o.label (LineRec.tally s.eng.missLimit (o.countedReason s.eng.pulse kind)) ∧
      (s.closedPass kind).att = (s.note (.reject o.label (o.countedReason s.eng.pulse kind))).att := by
  have closed : ∃ o', ((s.leaveRunning).dropPulse .interrupted).eng.occ = some o' ∧ o'.label = o.label ∧
      o'.endReason kind = o.countedReason s.eng.pulse kind := by
    rw [State.leaveRunning_dropPulse_occ, Engine.occWithoutPulse, held]
    cases s.eng.pulse with
    | none => exact ⟨o, if_pos rfl, rfl, o.endReason_eq_countedReason kind⟩
    | some pulse => exact ⟨o.spoiledBy .interrupted, if_neg (Option.some_ne_none _), rfl, o.endReason_spoiledBy pulse kind⟩
  obtain ⟨o', held', label, reason⟩ := closed
  rw [State.closedPass, State.closeOccupancy_of_some held', label, reason, State.passHoldStep_table,
    State.passHoldStep_att, State.dropPulse_eq]
  exact ⟨rfl, rfl⟩

theorem State.closedPass_source_ne (s : State) (kind : EndKind) {i : Fin 16} (h : i ≠ 12) :
    (s.closedPass kind).source i = s.source i := by
  cases held : s.eng.occ with
  | none => exact State.source_congr (State.closedPass_of_vacant held kind).2 i
  | some o =>
    rw [State.source_congr (State.closedPass_of_occupied held kind).2]
    exact State.source_note_ne s (d := .reject _ _) h

/-- Step 3 goes by the compensation unit and the channels as they stand before the pass end. -/
theorem State.closedPass_comp (s : State) (kind : EndKind) :
    (s.comp.forcePolicy ≠ .passHold → (s.closedPass kind).comp = s.comp) ∧
    (s.comp.forcePolicy = .passHold →
      (s.closedPass kind).comp.nuApplied = s.comp.nuTarget ∧ (s.closedPass kind).comp.tApplied = s.comp.steppedT ∧
      ∀ f : Fin 4,
        (s.closedPass kind).comp.factors[f] = lengthFactor (s.chan f).lambda (s.chan f).passK s.comp.nuTarget) := by
  unfold State.closedPass
  set u := ((s.leaveRunning).dropPulse .interrupted).closeOccupancy kind with hu
  have comp : u.comp = s.comp := by simp [hu]
  have chan : ∀ f, u.chan f = s.chan f := State.chan_congr (by simp [hu])
  refine ⟨fun other => ?_, fun policy => ?_⟩
  · rw [State.passHoldStep_of_ne (by rwa [comp]), comp]
  · have stepped := State.passHoldStep_of_passHold (s := u) (by rwa [comp])
    simpa only [comp, chan] using stepped

/-! ### What a pass end leaves in each part (R105) -/

section
variable {s : State} (running : s.trav.ctl = .running) (kind : EndKind) (inStop : Bool)

include running

theorem State.endPass_table_eq : (s.endPass kind inStop).table = (s.closedPass kind).table := by
  rw [State.endPass_of_running running, State.note_table, State.accountPlan_table]

theorem State.endPass_comp_eq : (s.endPass kind inStop).comp = (s.closedPass kind).comp := by
  rw [State.endPass_of_running running, State.note_comp, State.accountPlan_comp]

theorem State.endPass_trav_eq :
    (s.endPass kind inStop).trav = { s.trav.accounted kind inStop with
      ctl := if s.trav.completes kind inStop then .idle else .waiting, ring := (s.closedPass kind).trav.ring } := by
  rw [State.endPass_of_running running, State.note_trav, State.accountPlan_eq,
    apply_ite State.trav, State.note_trav, ite_self, State.closedPass_trav]
  rfl

theorem State.endPass_source_passEnd :
    (s.endPass kind inStop).source 9 =
      (s.source 9).raise (.passEnd s.trav.passNo (s.trav.dir.getD .fwd) kind) := by
  have kept : ((s.closedPass kind).accountPlan kind inStop).source 9 = s.source 9 := by
    rw [State.accountPlan_source_ne _ _ _ (by decide), State.closedPass_source_ne _ _ (by decide)]
  rw [State.endPass_of_running running, ← kept]
  exact State.source_note_self _ (.passEnd _ _ kind)

theorem State.endPass_source_planDone :
    (s.endPass kind inStop).source 10 =
      if s.trav.completes kind inStop then (s.source 10).raise (.planDone false) else s.source 10 := by
  have other : (10 : Fin 16) ≠ (Detail.passEnd s.trav.passNo (s.trav.dir.getD .fwd) kind).source :=
    show (10 : Fin 16) ≠ 9 by decide
  rw [State.endPass_of_running running, State.source_note_ne _ other, State.accountPlan_source_planDone,
    State.closedPass_source_ne _ _ (by decide), State.closedPass_trav]
  rfl

theorem State.endPass_source_reject : (s.endPass kind inStop).source 12 = (s.closedPass kind).source 12 := by
  have other : (12 : Fin 16) ≠ (Detail.passEnd s.trav.passNo (s.trav.dir.getD .fwd) kind).source :=
    show (12 : Fin 16) ≠ 9 by decide
  rw [State.endPass_of_running running, State.source_note_ne _ other, State.accountPlan_source_ne _ _ _ (by decide)]

end

theorem Source.raise_raised (x : Source) (d : Detail) : (x.raise d).raised = some ⟨min 255 (x.count + 1), d⟩ := by
  rw [Source.raise, satInc_eq_min]

theorem State.note_raised (s : State) (d : Detail) :
    ((s.note d).source d.source).raised = some ⟨min 255 ((s.source d.source).count + 1), d⟩ := by
  rw [State.source_note_self, Source.raise_raised]

/-- Settles O44: each part by the step of R105 that writes it. -/
theorem passEndHasItsEffects : Obligations.PassEndHasItsEffects := by
  intro s kind inStop d
  refine ⟨fun idle => State.endPass_of_not_running idle kind inStop, fun running dir => ?_⟩
  intro debited completes counts
  have debits : s.trav.debited kind = true ↔ debited := Traverse.debited_iff
  have ends : s.trav.completes kind inStop = true ↔ completes := Traverse.completes_iff.trans (and_congr_left' debits)
  have trav := State.endPass_trav_eq running kind inStop
  have planDone := State.endPass_source_planDone running kind inStop
  obtain ⟨other, passHold⟩ := s.closedPass_comp kind
  rw [← State.endPass_comp_eq running kind inStop] at other passHold
  refine ⟨⟨fun h => ?_, fun h => ?_⟩, State.endPass_eng running kind inStop, fun vacant => ?_, fun o held => ?_, other,
    fun policy => ?_, ?_, ⟨fun h => ?_, fun h => ?_⟩, ?_, ⟨fun h => ?_, fun h => ?_⟩, ?_, ?_⟩
  · rw [trav]
    exact if_pos (ends.mpr h)
  · rw [trav]
    exact if_neg (mt ends.mp h)
  · obtain ⟨table, att⟩ := State.closedPass_of_vacant vacant kind
    rw [State.endPass_table_eq running, State.endPass_source_reject running]
    exact ⟨table, State.source_congr att 12⟩
  · obtain ⟨table, att⟩ := State.closedPass_of_occupied held kind
    have counted : o.countedReason s.eng.pulse kind = counts o := rfl
    rw [State.endPass_table_eq running, State.endPass_source_reject running, table, State.source_congr att 12, ← counted]
    exact ⟨rfl, s.note_raised (.reject _ _)⟩
  · obtain ⟨nu, t, factors⟩ := passHold policy
    refine ⟨nu, t.trans ?_, factors⟩
    unfold Comp.steppedT
    cases s.comp.tTarget <;> rfl
  · rw [trav]
    rfl
  · rw [trav]
    exact if_pos (debits.mpr h)
  · rw [trav]
    exact if_neg (mt debits.mp h)
  · rw [trav]
    exact ⟨rfl, rfl⟩
  · rw [planDone, if_pos (ends.mpr h), Source.raise_raised]
  · rw [planDone, if_neg (mt ends.mp h)]
  · rw [State.endPass_source_passEnd running, dir, Source.raise_raised]
    rfl
  · simp

end Sys2Proof.Machine

namespace Sys2Proof.Machine

/-! ### The plan's requests (R94 to R96) and HOME (R128) -/

theorem decide_toNat_ne_zero {w : Nat} (n : BitVec w) : decide (n.toNat ≠ 0) = decide (n ≠ 0) :=
  decide_eq_decide.mpr (not_congr (by rw [← BitVec.toNat_inj]; rfl))

/-- STOP_PLAN raises PLAN_DONE with the controller already IDLE, so that the raising breaks nothing (R96, R150). -/
theorem stopPlan_of_not_idle {s : State} (busy : s.trav.ctl ≠ .idle) :
    stopPlan s = (((s.endPass .request true).goIdle).note (.planDone true), accepted false) := by
  rw [stopPlan, if_neg busy, State.raise_eq_note (.inr (by simp [State.goIdle]))]

/-- Within a STOP_PLAN no plan completes (R96). -/
theorem State.endPass_inStop_source_planDone (s : State) (kind : EndKind) :
    (s.endPass kind true).source 10 = s.source 10 := by
  by_cases running : s.trav.ctl = .running
  · have unfinished : s.trav.completes kind true = false := by simp [Traverse.completes]
    rw [State.endPass_source_planDone running, unfinished]
    rfl
  · rw [State.endPass_of_not_running running]

/-- A pass ended on request counts toward a counted plan, whose remaining count stays at 0 (R105). -/
theorem Traverse.remaining_accounted_request (t : Traverse) (inStop : Bool) :
    (t.accounted .request inStop).remaining = if t.counted then t.remaining - 1 else t.remaining := by
  have debited : t.debited .request = true ↔ t.counted = true ∧ t.remaining ≠ 0 := by simp [Traverse.debited_iff]
  rw [Traverse.accounted]
  by_cases spent : t.remaining = 0
  · simp [spent]
  · simp [debited, spent]

/-- Settles O43: the refusals by the state of the controller; STOP_PLAN by what the pass end of kind REQUEST leaves. -/
theorem planRequestsFollowTheController : Obligations.PlanRequestsFollowTheController := by
  intro s ok refused
  refine ⟨fun n awaited => ?_, fun awaited => ?_, fun awaited => ?_, fun awaited => ?_⟩
  · have run := complete_of_awaits awaited (startPlan n.toNat)
    refine ⟨fun busy => run.trans ?_, fun idle => run.trans ?_⟩
    · rw [startPlan, if_pos busy]
      rfl
    · rw [startPlan, if_neg (not_not.mpr idle), decide_toNat_ne_zero]
      rfl
  · have run := complete_of_awaits awaited endPassRequest
    refine ⟨fun still => run.trans ?_, fun running => run.trans ?_⟩
    · rw [endPassRequest, if_neg (mt (State.running_iff s).mp still)]
      rfl
    · rw [endPassRequest, if_pos ((State.running_iff s).mpr running)]
      rfl
  · have run := complete_of_awaits awaited stopPlan
    refine ⟨fun idle => run.trans ?_, fun busy => ?_⟩
    · rw [stopPlan, if_pos idle]
      rfl
    · rw [stopPlan_of_not_idle busy] at run
      refine ⟨_, run, rfl, rfl, ?_, fun waiting => ?_, fun d running dir => ⟨?_, ?_, ?_, ?_⟩⟩
      · have before : ((s.endPass .request true).goIdle).source 10 = s.source 10 := s.endPass_inStop_source_planDone .request
        rw [← before]
        exact State.note_raised _ (.planDone true)
      · rw [State.endPass_of_not_running (by simp [waiting])]
        exact ⟨rfl, rfl, rfl⟩
      · have other : (9 : Fin 16) ≠ (Detail.planDone true).source := show (9 : Fin 16) ≠ 10 by decide
        have ended := State.endPass_source_passEnd running .request true
        rw [dir] at ended
        exact (congrArg Source.raised ((State.source_note_ne _ other).trans ended)).trans (Source.raise_raised _ _)
      · exact congrArg Engine.occ (State.endPass_eng running .request true)
      · exact (congrArg Traverse.broken (State.endPass_trav_eq running .request true)).trans rfl
      · exact (congrArg Traverse.remaining (State.endPass_trav_eq running .request true)).trans
          (s.trav.remaining_accounted_request true)
  · have run := complete_of_awaits awaited home
    refine ⟨fun busy => run.trans ?_, fun idle => run.trans ?_⟩
    · rw [home, if_pos busy]
      rfl
    · rw [home, if_neg (not_not.mpr idle)]
      rfl

end Sys2Proof.Machine

namespace Sys2Proof.Machine

/-! ### SET_TRAVERSE (R97) -/

/-- The span and thresholds that a SET_TRAVERSE writes, clamped. -/
theorem SetTraverseReq.apply_eq (q : SetTraverseReq) (t : Traverse) :
    q.apply t = { t with
      sLo := (q.sLo.map fun b => max (-(2 ^ 47 - 1)) (min (2 ^ 47 - 1) b.toInt)).getD t.sLo
      sHi := (q.sHi.map fun b => max (-(2 ^ 47 - 1)) (min (2 ^ 47 - 1) b.toInt)).getD t.sHi
      vStart := (q.vStart.map fun b => max 1 (min 1000000 b.toInt)).getD t.vStart
      vRev := (q.vRev.map fun b => max 1 (min 1000000 b.toInt)).getD t.vRev } := by
  unfold SetTraverseReq.apply
  congr 1
  · exact settle_signed (by decide) _ _
  · exact settle_signed (by decide) _ _
  · exact settle_signed (by norm_num) _ _
  · exact settle_signed (by norm_num) _ _

theorem SetTraverseReq.clamps_eq (q : SetTraverseReq) :
    q.clamps = ((q.sLo.map fun b => decide (b.toInt < -(2 ^ 47 - 1) ∨ 2 ^ 47 - 1 < b.toInt)).getD false ||
      (q.sHi.map fun b => decide (b.toInt < -(2 ^ 47 - 1) ∨ 2 ^ 47 - 1 < b.toInt)).getD false ||
      (q.vStart.map fun b => decide (b.toInt < 1 ∨ 1000000 < b.toInt)).getD false ||
      (q.vRev.map fun b => decide (b.toInt < 1 ∨ 1000000 < b.toInt)).getD false) := by
  simp only [SetTraverseReq.clamps, outside_signed, Config.positionMax]

/-- A SET_TRAVERSE with no unlisted flag is checked on the span that would result (R97). -/
theorem exec_setTraverse {q : SetTraverseReq} {s : State} (awaited : s.awaits (.setTraverse q) = true)
    (listed : q.unlisted = 0) :
    exec (.setTraverse q) s = .next (if (q.apply s.trav).sHi ≤ (q.apply s.trav).sLo then s.respond ⟨.range, []⟩
      else { s with trav := q.apply s.trav }.respond (accepted q.clamps)) := by
  refine (complete_of_awaits awaited _).trans ?_
  rw [setTraverse, if_neg (not_not.mpr listed)]
  split <;> rfl

/-! ### SET_DETECTOR (R109, R114, R118) -/

/-- The detector settings that a SET_DETECTOR writes, the numeric ones clamped (R109). -/
theorem SetDetectorReq.apply_eq (q : SetDetectorReq) (mode : Option Mode) (clock : Int) (e : Engine) :
    q.apply mode clock e = { e with
      mode := mode.getD e.mode
      priorFilter := if q.filter = none then e.priorFilter else e.filter
      filterClock := if q.filter = none then e.filterClock else clock
      filter := (q.filter.map fun b => max 0 (min 15 (b.toNat : Int))).getD e.filter
      delay := (q.delay.map fun b => max 0 (min 240 (b.toNat : Int))).getD e.delay
      wMin := (q.wMin.map fun b => max 0 (min 50000000 b.toInt)).getD e.wMin
      wMax := (q.wMax.map fun b => max 0 (min 50000000 b.toInt)).getD e.wMax
      missLimit := (q.missLimit.map fun b => max 0 (min 15 (b.toNat : Int))).getD e.missLimit } := by
  unfold SetDetectorReq.apply
  congr 1
  · exact settle_unsigned (by norm_num) _ _
  · exact settle_unsigned (by norm_num) _ _
  · exact settle_signed (by norm_num) _ _
  · exact settle_signed (by norm_num) _ _
  · exact settle_unsigned (by norm_num) _ _
  · cases q.filter <;> rfl
  · cases q.filter <;> rfl

theorem SetDetectorReq.clamps_eq (q : SetDetectorReq) :
    q.clamps = ((q.filter.map fun b => decide ((b.toNat : Int) < 0 ∨ 15 < (b.toNat : Int))).getD false ||
      (q.delay.map fun b => decide ((b.toNat : Int) < 0 ∨ 240 < (b.toNat : Int))).getD false ||
      (q.wMin.map fun b => decide (b.toInt < 0 ∨ 50000000 < b.toInt)).getD false ||
      (q.wMax.map fun b => decide (b.toInt < 0 ∨ 50000000 < b.toInt)).getD false ||
      (q.missLimit.map fun b => decide ((b.toNat : Int) < 0 ∨ 15 < (b.toNat : Int))).getD false) := by
  simp only [SetDetectorReq.clamps, outside_signed, outside_unsigned]

/-- The free completion clock lies from the latest sample instant to before the next one (entry 37). -/
theorem State.completionClock_bounds (s : State) :
    8 * (s.conversions : Int) - 8 ≤ s.completionClock ∧ s.completionClock < 8 * s.conversions := by
  unfold State.completionClock
  omega

theorem setDetector_of_unnamed {q : SetDetectorReq} {s : State} (listed : q.unlisted = 0)
    (unnamed : named modeOf q.mode = none) : setDetector q s = refuse .range s := by
  simp only [setDetector, listed, unnamed, ne_eq, not_true_eq_false, if_false]

theorem setDetector_named {q : SetDetectorReq} {s : State} {mode : Option Mode} (listed : q.unlisted = 0)
    (names : named modeOf q.mode = some mode) :
    setDetector q s =
      if (q.apply mode s.completionClock s.eng).wMax < (q.apply mode s.completionClock s.eng).wMin then refuse .range s
      else ({ s with eng := q.apply mode s.completionClock s.eng }.changeMode q.mode.isSome, accepted q.clamps) := by
  simp only [setDetector, listed, names, ne_eq, not_true_eq_false, if_false]

/-! A mode carried loses the latched edges, and then discards the open pulse; each spoils the occupancy. -/

theorem State.loseLatches_eq {s : State} (passes : s.eng.occ ≠ none → s.trav.ctl = .running) :
    s.loseLatches = { s with eng := { s.eng with
      latches := [], occ := if s.eng.latches = [] then s.eng.occ else s.eng.occ.map (·.spoiledBy .interrupted) } } := by
  unfold State.loseLatches
  dsimp only
  by_cases empty : s.eng.latches = []
  · rw [if_pos (List.isEmpty_iff.mpr empty), if_pos empty]
  · rw [if_neg (mt List.isEmpty_iff.mp empty), if_neg empty, State.lostStrobe]
    split
    · exact State.spoil_eq _ _
    · next still =>
      have vacant : s.eng.occ = none := by
        by_contra held
        exact still ((State.running_iff s).mpr (passes held))
      rw [vacant, Option.map_none, ← vacant]

/-- Without an exit pending a discarded pulse is dropped, and nothing follows (R118). -/
theorem State.discardPulse_of_not_pending {s : State} (clear : ∀ o, s.eng.occ = some o → o.pending = none)
    (reason : Reject) : s.discardPulse reason = s.dropPulse reason := by
  unfold State.discardPulse
  split
  · next opened =>
    have dropped : (s.dropPulse reason).eng.occ = s.eng.occ.map (·.spoiledBy reason) := by
      rw [State.dropPulse_eq]
      exact if_neg (Option.isSome_iff_ne_none.mp opened)
    unfold State.takePendingExit
    rw [dropped]
    cases held : s.eng.occ with
    | none => rfl
    | some o =>
      have unasked : (o.spoiledBy reason).pending = none := clear o held
      simp only [Option.map_some, unasked]
  · next closed =>
    have none : s.eng.pulse = none := by simpa using closed
    simp only [State.dropPulse, none]

/-- A mode carried, where the occupancy is one of a running pass with no exit pending, or there is none (R114, R118). -/
theorem State.changeMode_carried {s : State}
    (passes : ∀ o, s.eng.occ = some o → o.pending = none ∧ s.trav.ctl = .running) :
    s.changeMode true = { s with eng := { s.eng with
      latches := [], pulse := none
      occ := if s.eng.latches = [] ∧ s.eng.pulse = none then s.eng.occ
        else s.eng.occ.map (·.spoiledBy .interrupted) } } := by
  have lost : s.loseLatches = _ := State.loseLatches_eq fun held =>
    let ⟨o, ho⟩ := Option.ne_none_iff_exists'.mp held
    (passes o ho).2
  have clear : ∀ o, s.loseLatches.eng.occ = some o → o.pending = none := by
    rw [lost]
    dsimp only
    split
    · exact fun o held => (passes o held).1
    · intro o held
      obtain ⟨o', held', rfl⟩ := Option.map_eq_some_iff.mp held
      exact (passes o' held').1
  rw [State.changeMode, if_pos rfl, State.discardPulse_of_not_pending clear, State.dropPulse_eq, lost]
  unfold Engine.occWithoutPulse
  by_cases closed : s.eng.pulse = none
  · simp only [closed, and_true, if_true]
  · by_cases empty : s.eng.latches = []
    · simp only [closed, empty, and_false, if_true, if_false]
    · simp only [closed, empty, and_false, if_false, Option.map_map, Function.comp_def, Occ.spoiledBy_spoiledBy]

/-- Settles O42: the settings as `apply_eq` says, and for a mode carried what `State.changeMode_carried` leaves. -/
theorem traverseAndDetectorTakeTheirSettings : Obligations.TraverseAndDetectorTakeTheirSettings := by
  intro s put putByte beyond beyondByte
  refine ⟨fun q awaited listed => ?_, fun q awaited listed => ⟨fun unnamed => ?_, s.completionClock,
    s.completionClock_bounds, fun mode names => ?_⟩⟩
  · have run := exec_setTraverse awaited listed
    rw [SetTraverseReq.apply_eq, accepted_eq, SetTraverseReq.clamps_eq] at run
    exact ⟨fun empty => run.trans (congrArg _ (if_pos empty)), fun span => run.trans (congrArg _ (if_neg (not_le.mpr span)))⟩
  · refine (complete_of_awaits awaited (setDetector q)).trans ?_
    rw [setDetector_of_unnamed listed unnamed]
    rfl
  · intro st e
    have run := complete_of_awaits awaited (setDetector q)
    have settings : q.apply mode s.completionClock s.eng = e := SetDetectorReq.apply_eq q mode _ _
    rw [setDetector_named listed names, settings, accepted_eq, SetDetectorReq.clamps_eq] at run
    refine ⟨fun empty => run.trans ?_, fun band => ?_⟩
    · rw [if_pos empty]
      rfl
    · rw [if_neg (not_lt.mpr band)] at run
      have carries : ∀ occ, q.mode ≠ none → (∀ o, s.eng.occ = some o → o.pending = none ∧ s.trav.ctl = .running) →
          (if s.eng.latches = [] ∧ s.eng.pulse = none then s.eng.occ
            else s.eng.occ.map (·.spoiledBy .interrupted)) = occ →
          exec (.setDetector q) s = .next { s with
            eng := { e with latches := [], pulse := none, occ := occ }
            port := { s.port with link := .holding ⟨st, []⟩ } } := fun occ carried passes left => by
        refine run.trans ?_
        rw [Option.isSome_iff_ne_none.mpr carried, State.changeMode_carried (s := { s with eng := e }) passes, ← left]
        rfl
      refine ⟨fun absent => run.trans ?_, fun carried vacant => ?_, fun o carried held exit running unspoiled => ?_⟩
      · rw [absent]
        rfl
      · refine carries s.eng.occ carried (fun o held => absurd (vacant.symm.trans held) (by simp)) ?_
        rw [vacant, Option.map_none, ite_self]
      · refine carries _ carried (fun o' held' => ⟨Option.some.inj (held.symm.trans held') ▸ exit, running⟩) ?_
        rw [held, Option.map_some, Occ.spoiledBy_of_unspoiled unspoiled]

end Sys2Proof.Machine

namespace Sys2Proof.Machine

/-! ### Edges accepted (R110 to R112, R114) -/

/-- The filter confirms a level that held long enough, is new, and was first seen after the level before (R110). -/
theorem Engine.confirms_iff {e : Engine} {level : Bool} {t held : Nat} :
    e.confirms level t held = true ↔
      e.filterAt t + 1 ≤ (held : Int) ∧ e.level ≠ some level ∧ ∀ t0, e.levelClock = some t0 → t0 < t := by
  unfold Engine.confirms
  cases e.levelClock <;> simp [and_assoc]

section
variable {s : State} {level : Bool} {t held : Nat}

theorem exec_edgeAccept_of_confirms (active : s.active = true) (confirms : s.eng.confirms level t held = true) :
    exec (.edgeAccept level t held) s = .next (s.confirmLevel level t) :=
  congrArg Host.Outcome.next (if_pos (by rw [active, confirms]; rfl))

theorem exec_edgeAccept_of_not_confirms (ignored : ¬s.eng.confirms level t held = true) :
    exec (.edgeAccept level t held) s = .next s :=
  congrArg Host.Outcome.next (if_neg fun h => ignored (Bool.and_eq_true_iff.mp h).2)

/-- The first confirmation after a reset accepts no edge (R110). -/
theorem State.confirmLevel_first (first : s.eng.level = none) :
    s.confirmLevel level t = { s with eng := { s.eng with level := some level, levelClock := some t } } := by
  rw [State.confirmLevel, first]

theorem State.confirmLevel_later {old : Bool} (later : s.eng.level = some old) :
    s.confirmLevel level t =
      { s with eng := { s.eng with level := some level, levelClock := some t } }.acceptEdge level t := by
  rw [State.confirmLevel, later]

/-- The mode does not use the edge, MEASURE is OFF, or the sample precedes MEASURE's run (R112). -/
def State.UnusedEdge (s : State) (rising : Bool) (a : Int) : Prop :=
  s.eng.mode.kindOf rising = none ∨ (s.chan 0).state = .off ∨ a < 0 ∨ (a / 8).toNat < (s.chan 0).first.getD 0

/-- The latch list is full, or the aligned track has taken the edge's segment (R112, R114). -/
def State.LosesEdge (s : State) (a : Int) : Prop :=
  64 ≤ s.eng.latches.length ∨ (a / 8).toNat + 1 < s.tracks.alignedNext

theorem State.acceptEdge_of_unused {rising : Bool} (unused : s.UnusedEdge rising (t - s.eng.delay)) :
    s.acceptEdge rising t = s := by
  unfold State.acceptEdge
  split
  · rfl
  · next kind used => exact if_pos (unused.resolve_left (by simp [used]))

theorem State.acceptEdge_of_used {rising : Bool} (used : ¬s.UnusedEdge rising (t - s.eng.delay)) :
    ∃ kind, s.eng.mode.kindOf rising = some kind ∧
      (s.LosesEdge (t - s.eng.delay) → s.acceptEdge rising t = s.lostStrobe) ∧
      (¬s.LosesEdge (t - s.eng.delay) → s.acceptEdge rising t = { s with eng := { s.eng with
        latches := s.eng.latches ++
          [⟨kind, t - s.eng.delay, ((t - s.eng.delay) / 8).toNat, (t - s.eng.delay) % 8, none⟩] } }) := by
  unfold State.UnusedEdge at used
  rw [not_or] at used
  obtain ⟨kind, named⟩ := Option.ne_none_iff_exists'.mp used.1
  refine ⟨kind, named, fun lost => ?_, fun free => ?_⟩
  · simp only [State.acceptEdge, named]
    rw [if_neg (by exact used.2), ← ite_or]
    exact if_pos lost
  · simp only [State.acceptEdge, named]
    rw [if_neg (by exact used.2), ← ite_or]
    exact if_neg free

/-- A lost strobe spoils an occupancy held in a running pass, and is lost without effect otherwise (R114). -/
theorem State.lostStrobe_of_running (running : s.trav.ctl = .running) :
    s.lostStrobe = { s with eng := { s.eng with occ := s.eng.occ.map (·.spoiledBy .interrupted) } } :=
  (if_pos ((State.running_iff s).mpr running)).trans (State.spoil_eq s _)

theorem State.lostStrobe_of_free (free : s.trav.ctl ≠ .running ∨ s.eng.occ = none) : s.lostStrobe = s := by
  by_cases running : s.trav.ctl = .running
  · have vacant := free.resolve_left (not_not.mpr running)
    rw [State.lostStrobe_of_running running, vacant, Option.map_none, ← vacant]
  · exact if_neg (mt (State.running_iff s).mp running)

end

theorem Occ.spoiledBy_eq (o : Occ) (reason : Reject) :
    o.spoiledBy reason = match o.outcome with
      | .spoiled _ => o
      | _ => { o with outcome := .spoiled reason } := by
  obtain ⟨label, side, dir, outcome, pending⟩ := o
  cases outcome <;> rfl

/-- Settles O46: the filter's step by whether it confirms, and an accepted edge by whether it is used and whether it is lost. -/
theorem edgeIsLatchedAtItsAlignedInstant : Obligations.EdgeIsLatchedAtItsAlignedInstant := by
  intro level t held s rstn link a kind e unused lost spoiled filter
  have active : s.active = true := State.active_iff.mpr ⟨rstn, link⟩
  have edge : kind = s.eng.mode.kindOf level := by
    cases h : s.eng.mode <;> cases level <;> simp [kind, h, Mode.kindOf]
  refine ⟨fun short => ?_, fun long first clock => ?_, fun t0 long opposite clock later => ?_⟩
  · refine exec_edgeAccept_of_not_confirms fun confirmed => ?_
    exact absurd (Engine.confirms_iff.mp confirmed).1 (not_le.mpr short)
  · have confirmed : s.eng.confirms level t held = true :=
      Engine.confirms_iff.mpr ⟨long, by simp [first], by simp [clock]⟩
    rw [exec_edgeAccept_of_confirms active confirmed, State.confirmLevel_first first]
  · have confirmed : s.eng.confirms level t held = true :=
      Engine.confirms_iff.mpr ⟨long, by simp [opposite], fun x hx => Option.some.inj (clock.symm.trans hx) ▸ later⟩
    rw [exec_edgeAccept_of_confirms active confirmed, State.confirmLevel_later opposite]
    set u : State := { s with eng := e }
    have isUnused : u.UnusedEdge level (t - u.eng.delay) ↔ unused := by
      rw [State.UnusedEdge, ← show kind = u.eng.mode.kindOf level from edge]
      rfl
    refine ⟨fun drop => ?_, fun used loses => ⟨fun free => ?_, fun o running held => ?_⟩, fun used room => ?_⟩
    · rw [State.acceptEdge_of_unused (isUnused.mpr drop)]
    · obtain ⟨-, -, losing, -⟩ := State.acceptEdge_of_used (mt isUnused.mp used)
      rw [losing loses, State.lostStrobe_of_free (s := u) free]
    · obtain ⟨-, -, losing, -⟩ := State.acceptEdge_of_used (mt isUnused.mp used)
      have occupied : u.eng.occ.map (·.spoiledBy .interrupted) = some (spoiled o) := by
        rw [show u.eng.occ = some o from held, Option.map_some]
        exact congrArg some (o.spoiledBy_eq .interrupted)
      rw [losing loses, State.lostStrobe_of_running (s := u) running, occupied]
    · obtain ⟨kd, named, -, latching⟩ := State.acceptEdge_of_used (mt isUnused.mp used)
      exact ⟨kd, edge.trans named, congrArg _ (latching room)⟩

end Sys2Proof.Machine

namespace Sys2Proof.Machine

/-! ### The completion of a latch (R115, R116) -/

/-- The first latch that waits and can complete is the one that does (entry 29). -/
theorem State.completeFirst_append {s : State} {before after : List Edge} {e : Edge} {l : Latched}
    (passed : ∀ x ∈ before, x.latch ≠ none ∨ s.latchOf x = none) (waits : e.latch = none)
    (completes : s.latchOf e = some l) :
    s.completeFirst (before ++ e :: after) = before ++ { e with latch := some l } :: after := by
  induction before with
  | nil => simp [State.completeFirst, State.completeEdge, waits, completes]
  | cons x xs ih =>
    obtain ⟨stays, rest⟩ := List.forall_mem_cons.mp passed
    have skipped : ¬(x.latch = none ∧ (s.latchOf x).isSome = true) := fun ⟨waiting, able⟩ => by
      rcases stays with done | unable
      · exact done waiting
      · simp [unable] at able
    rw [List.cons_append, State.completeFirst, if_neg skipped, ih rest, List.cons_append]

theorem exec_latchComplete_of_first {s : State} {before after : List Edge} {e : Edge} {l : Latched}
    (active : s.active = true) (latches : s.eng.latches = before ++ e :: after)
    (passed : ∀ x ∈ before, x.latch ≠ none ∨ s.latchOf x = none) (waits : e.latch = none)
    (completes : s.latchOf e = some l) :
    exec .latchComplete s =
      .next { s with eng := { s.eng with latches := before ++ { e with latch := some l } :: after } } := by
  rw [← State.completeFirst_append passed waits completes, ← latches]
  exact congrArg Host.Outcome.next (if_pos active)

theorem Channel.answers_held {ch : Channel} {k : Nat} {h0 h1 : HistEntry} (on : ch.state ≠ .off)
    (at0 : ch.entry k = some h0) (at1 : ch.entry (k + 1) = some h1) : ch.answers k = [.held h0, .held h1] := by
  rw [Channel.answers, if_neg on, Channel.ask_held at0, Channel.ask_held at1]

theorem State.answers_alone {s : State} (alone : s.partner = none) (k : Nat) : s.answers k = s.measure.answers k := by
  rw [State.answers, alone, List.append_nil]

theorem State.answers_of_partner {s : State} {f : Fin 4} (held : s.partner = some f) (k : Nat) :
    s.answers k = s.measure.answers k ++ (s.chan f).answers k := by
  rw [State.answers, held]

/-- A channel that is OFF, or that lacks a sample it has passed, holds one of the two samples no more (R15, R115). -/
theorem Channel.notHeld_mem_answers {ch : Channel} {k : Nat}
    (gone : ch.state = .off ∨ ∃ k', (k' = k ∨ k' = k + 1) ∧ ch.entry k' = none ∧ k' < ch.countsFrom) :
    .notHeld ∈ ch.answers k := by
  unfold Channel.answers
  split
  · exact List.mem_cons_self
  · next on =>
    obtain ⟨k', place, absent, passed⟩ := gone.resolve_left on
    have answer : ch.ask k' = .notHeld := by rw [Channel.ask_not_held absent, if_neg (not_le.mpr passed)]
    rcases place with rfl | rfl <;> simp [answer]

/-- A latch completes with no position, invalid, as soon as one of its samples is not held (R115). -/
theorem State.latchOf_of_notHeld {s : State} {e : Edge} (gone : .notHeld ∈ s.answers e.k) :
    ∃ coast, s.latchOf e = some ⟨none, 0, 0, false, false, coast⟩ :=
  ⟨_, if_pos (List.any_eq_true.mpr ⟨_, gone, rfl⟩)⟩

/-- The raw eighth-count between two entries that the history holds (R115). -/
theorem Channel.rawAt_held {ch : Channel} {e : Edge} {h0 h1 : HistEntry} (on : ch.state ≠ .off)
    (at0 : ch.entry e.k = some h0) (at1 : ch.entry (e.k + 1) = some h1) :
    ch.rawAt e = 8 * h0.q + e.fine * (h1.q - h0.q) := by
  rw [Channel.rawAt, Channel.qAt_of_on on, Channel.qAt_of_on on, at0, at1]
  rfl

/-- A latch whose samples are all held is judged by their entries (R115, R116). -/
theorem State.latchOf_of_held {s : State} {e : Edge} {hs : List HistEntry} (held : s.answers e.k = hs.map .held) :
    s.latchOf e = some
      { pos := some (s.position (s.measure.rawAt e - s.measure.origin)
          ((match s.partner with
            | none => 0
            | some c => (s.chan c).rawAt e) - match s.partner with
            | none => 0
            | some c => (s.chan c).origin))
        rawM := s.measure.rawAt e
        rawP := match s.partner with
          | none => 0
          | some c => (s.chan c).rawAt e
        valid := (hs.all fun h => decide (h.state = .tracking)) && hs.all HistEntry.referenced
        homeValid := hs.all fun h => decide (h.state = .tracking)
        coast := hs.any fun h => decide (h.state = .coasting) } := by
  have judged : ((hs.all fun h => decide (h.state = .tracking)) && hs.all HistEntry.referenced) =
      hs.all fun h => decide (h.state = .tracking) && h.referenced :=
    Bool.eq_iff_iff.mpr (by simp only [Bool.and_eq_true, List.all_eq_true, imp_and, forall_and])
  unfold State.latchOf
  rw [held, judged]
  have none_missing : ∀ x, x = HistAnswer.notHeld ∨ x = .notYet →
      ((hs.map .held).any fun a => decide (a = x)) = false := by
    rintro x (rfl | rfl) <;> simp
  dsimp only
  rw [none_missing .notHeld (.inl rfl), none_missing .notYet (.inr rfl), List.any_map, List.all_map, List.all_map]
  rfl

/-- Settles O47: the latch completes by `State.latchOf_of_held`, or with no position by `State.latchOf_of_notHeld`. -/
theorem latchReadsTheHistory : Obligations.LatchReadsTheHistory := by
  intro before after e h0 h1 s rstn link latches waits passed on at0 at1 rawM completes shows coasts refs
  have first : ∀ l, s.latchOf e = some l → completes l := fun l =>
    exec_latchComplete_of_first (State.active_iff.mpr ⟨rstn, link⟩) latches passed waits
  have measure : s.measure.answers e.k = [.held h0, .held h1] := Channel.answers_held on at0 at1
  have raw : s.measure.rawAt e = rawM := Channel.rawAt_held on at0 at1
  refine ⟨fun alone => first _ ?_, fun f g0 g1 held on' at0' at1' => first _ ?_, fun f held gone => ?_⟩
  · rw [State.latchOf_of_held (hs := [h0, h1]) ((State.answers_alone alone e.k).trans measure), alone, raw]
    rfl
  · have answers : s.answers e.k = [h0, h1, g0, g1].map .held := by
      rw [State.answers_of_partner held, measure, Channel.answers_held on' at0' at1']
      rfl
    rw [State.latchOf_of_held answers, held, raw]
    dsimp only
    rw [Channel.rawAt_held on' at0' at1']
    rfl
  · have missing : .notHeld ∈ s.answers e.k := by
      rw [State.answers_of_partner held]
      exact List.mem_append_right _ (Channel.notHeld_mem_answers gone)
    obtain ⟨coast, complete⟩ := State.latchOf_of_notHeld missing
    exact ⟨_, first _ complete, rfl, rfl, rfl⟩

end Sys2Proof.Machine

namespace Sys2Proof.Machine

/-! ### The crossings of a segment (R119, R120) -/

/-- The place of a crossing. -/
def Crossing.place : Crossing → Int
  | .enter _ _ x => x
  | .leave _ _ x => x

section
variable {r : LineRec} {p0 p1 : Int}

theorem LineRec.crossings_up (up : p0 < p1) : r.crossings p0 p1 =
    (if p0 < r.lo ∧ r.lo ≤ p1 then [.enter r.label .low r.lo] else []) ++
      (if p0 ≤ r.hi ∧ r.hi < p1 then [.leave r.label .high r.hi] else []) := if_pos up

theorem LineRec.crossings_down (down : p1 < p0) : r.crossings p0 p1 =
    (if p1 ≤ r.hi ∧ r.hi < p0 then [.enter r.label .high r.hi] else []) ++
      (if p1 < r.lo ∧ r.lo ≤ p0 then [.leave r.label .low r.lo] else []) :=
  (if_neg down.not_gt).trans (if_pos down)

theorem LineRec.crossings_still (p : Int) : r.crossings p p = [] := by simp [LineRec.crossings]

theorem LineRec.mem_crossings {c : Crossing} : c ∈ r.crossings p0 p1 ↔
    (c = .enter r.label .low r.lo ∧ p0 < r.lo ∧ r.lo ≤ p1) ∨
      (c = .enter r.label .high r.hi ∧ p1 ≤ r.hi ∧ r.hi < p0) ∨
      (c = .leave r.label .high r.hi ∧ p0 ≤ r.hi ∧ r.hi < p1) ∨
      (c = .leave r.label .low r.lo ∧ p1 < r.lo ∧ r.lo ≤ p0) := by
  rcases lt_trichotomy p0 p1 with up | rfl | down
  · simp only [LineRec.crossings_up up, List.mem_append, List.mem_ite_nil_right, List.mem_singleton]
    grind
  · simp only [LineRec.crossings_still, List.not_mem_nil]
    grind
  · simp only [LineRec.crossings_down down, List.mem_append, List.mem_ite_nil_right, List.mem_singleton]
    grind

end

theorem Table.mem_crossings {t : Table} {p0 p1 : Int} {c : Crossing} :
    c ∈ t.crossings p0 p1 ↔ ∃ r ∈ t.records, c ∈ r.crossings p0 p1 := by
  unfold Table.crossings
  split
  · exact List.mem_flatMap
  · simp only [List.mem_flatMap, List.mem_reverse]

theorem Table.enter_mem_crossings {t : Table} {p0 p1 pos : Int} {l : Nat} {side : Side} :
    .enter l side pos ∈ t.crossings p0 p1 ↔ ∃ r ∈ t.records, r.label = l ∧
      ((side = .low ∧ pos = r.n - r.w ∧ p0 < pos ∧ pos ≤ p1) ∨
        (side = .high ∧ pos = r.n + r.w ∧ p1 ≤ pos ∧ pos < p0)) := by
  rw [Table.mem_crossings]
  refine exists_congr fun r => and_congr_right fun _ => ?_
  rw [LineRec.mem_crossings, LineRec.lo, LineRec.hi]
  grind

theorem Table.leave_mem_crossings {t : Table} {p0 p1 pos : Int} {l : Nat} {side : Side} :
    .leave l side pos ∈ t.crossings p0 p1 ↔ ∃ r ∈ t.records, r.label = l ∧
      ((side = .high ∧ pos = r.n + r.w ∧ p0 ≤ pos ∧ pos < p1) ∨
        (side = .low ∧ pos = r.n - r.w ∧ p1 < pos ∧ pos ≤ p0)) := by
  rw [Table.mem_crossings]
  refine exists_congr fun r => and_congr_right fun _ => ?_
  rw [LineRec.mem_crossings, LineRec.lo, LineRec.hi]
  grind

/-- A crossing lies at an end of its record's window. -/
theorem LineRec.place_of_mem_crossings {r : LineRec} {p0 p1 : Int} {c : Crossing} (h : c ∈ r.crossings p0 p1) :
    c.place = r.lo ∨ c.place = r.hi := by
  rcases LineRec.mem_crossings.mp h with ⟨rfl, -⟩ | ⟨rfl, -⟩ | ⟨rfl, -⟩ | ⟨rfl, -⟩
  · exact .inl rfl
  · exact .inr rfl
  · exact .inr rfl
  · exact .inl rfl

theorem Table.Ordered.lo_lt_hi {t : Table} (h : t.Ordered) {r : LineRec} (hr : r ∈ t.records) : r.lo < r.hi := by
  have wide := h.window r hr
  unfold LineRec.lo LineRec.hi
  omega

/-- Of two records the lower has all its crossings below those of the upper (R72). -/
theorem Table.Ordered.places_apart {t : Table} (h : t.Ordered) {r r' : LineRec} (hr : r ∈ t.records) (hr' : r' ∈ t.records)
    (apart : r.hi < r'.lo) {p0 p1 : Int} {c c' : Crossing} (hc : c ∈ r.crossings p0 p1) (hc' : c' ∈ r'.crossings p0 p1) :
    c.place < c'.place := by
  have wide := h.lo_lt_hi hr
  have wide' := h.lo_lt_hi hr'
  have place := LineRec.place_of_mem_crossings hc
  have place' := LineRec.place_of_mem_crossings hc'
  omega

/-- Upward travel meets the crossings in ascending order (R120). -/
theorem Table.Ordered.crossings_ascend {t : Table} (h : t.Ordered) {p0 p1 : Int} (up : p0 < p1) :
    (t.crossings p0 p1).Pairwise fun c c' => c.place < c'.place := by
  rw [Table.crossings, if_pos up, List.pairwise_flatMap]
  refine ⟨fun r hr => ?_, h.apart.imp_of_mem fun {r r'} hr hr' apart c hc c' hc' => ?_⟩
  · have wide := h.lo_lt_hi hr
    rw [LineRec.crossings_up up]
    split <;> split <;> simp [Crossing.place, wide]
  · exact h.places_apart hr hr' apart hc hc'

/-- Downward travel meets them in descending order (R120). -/
theorem Table.Ordered.crossings_descend {t : Table} (h : t.Ordered) {p0 p1 : Int} (down : p1 < p0) :
    (t.crossings p0 p1).Pairwise fun c c' => c'.place < c.place := by
  rw [Table.crossings, if_neg down.not_gt, List.pairwise_flatMap]
  refine ⟨fun r hr => ?_, (List.pairwise_reverse.mpr (h.apart.imp_of_mem fun {r r'} hr hr' apart c hc c' hc' => ?_))⟩
  · have wide := h.lo_lt_hi (List.mem_reverse.mp hr)
    rw [LineRec.crossings_down down]
    split <;> split <;> simp [Crossing.place, wide]
  · exact h.places_apart hr hr' apart hc' hc

/-! ### The order of a segment (R120) -/

/-- The events of a segment in the order in which the carriage meets them: before each edge the crossings that the carriage
reaches first (R120). -/
def meetingOrder (up : Bool) : List Edge → List Crossing → List (Crossing ⊕ Edge)
  | [], cs => cs.map .inl
  | e :: es, cs => (cs.takeWhile (e.precededBy up)).map .inl ++
      .inr e :: meetingOrder up es (cs.dropWhile (e.precededBy up))

/-- An event of a segment taken. -/
def State.takeEvent (belongs : Bool) (s : State) : Crossing ⊕ Edge → State
  | .inl c => s.takeCrossing belongs c
  | .inr e => s.takeEdge belongs e

theorem State.takeInOrder_eq_foldl (belongs up : Bool) (s : State) (es : List Edge) (cs : List Crossing) :
    s.takeInOrder belongs up es cs = (meetingOrder up es cs).foldl (State.takeEvent belongs) s := by
  induction es generalizing s cs with
  | nil => rw [State.takeInOrder, meetingOrder, List.foldl_map]; rfl
  | cons e es ih =>
    rw [State.takeInOrder, meetingOrder, ih, List.foldl_append, List.foldl_cons, List.foldl_map]
    rfl

theorem meetingOrder_crossings (up : Bool) (es : List Edge) (cs : List Crossing) :
    (meetingOrder up es cs).filterMap Sum.getLeft? = cs := by
  induction es generalizing cs with
  | nil => simp [meetingOrder, List.filterMap_map, Function.comp_def]
  | cons e es ih => simp [meetingOrder, List.filterMap_map, List.filterMap_cons, Function.comp_def, ih]

theorem meetingOrder_edges (up : Bool) (es : List Edge) (cs : List Crossing) :
    (meetingOrder up es cs).filterMap Sum.getRight? = es := by
  induction es generalizing cs with
  | nil => simp [meetingOrder, List.filterMap_map, Function.comp_def]
  | cons e es ih => simp [meetingOrder, List.filterMap_map, Function.comp_def, ih]

/-- Where a test that holds of an element holds of all before it, the initial stretch that meets it is all that meets it. -/
theorem takeWhile_dropWhile_eq_filter {α : Type} {p : α → Bool} {xs : List α}
    (initial : xs.Pairwise fun x y => p y = true → p x = true) :
    xs.takeWhile p = xs.filter p ∧ xs.dropWhile p = xs.filter fun x => !p x := by
  induction initial with
  | nil => exact ⟨rfl, rfl⟩
  | @cons x xs first _ ih =>
    obtain ⟨taken, left⟩ := ih
    by_cases hx : p x = true
    · simp [hx, taken, left]
    · have fails : ∀ y ∈ xs, ¬p y = true := fun y hy => mt (first y hy) hx
      have all : (xs.filter fun y => !p y) = xs := List.filter_eq_self.mpr fun y hy => by simpa using fails y hy
      simp [hx, all, List.filter_eq_nil_iff.mpr fails]

/-- The crossings met before an edge are those that the carriage reaches before it or before an earlier edge. -/
theorem mem_before_edge {up : Bool} {es : List Edge} {cs : List Crossing}
    (travel : ∀ e : Edge, cs.Pairwise fun c c' => e.precededBy up c' = true → e.precededBy up c = true)
    {before after : List (Crossing ⊕ Edge)} {e : Edge} (order : meetingOrder up es cs = before ++ .inr e :: after)
    (c : Crossing) :
    .inl c ∈ before ↔
      c ∈ cs ∧ (e.precededBy up c = true ∨ ∃ e', .inr e' ∈ before ∧ e'.precededBy up c = true) := by
  induction es generalizing cs before with
  | nil =>
    have edge : Sum.inr e ∈ meetingOrder up [] cs := order ▸ List.mem_append_right _ List.mem_cons_self
    simp [meetingOrder] at edge
  | cons e₁ es ih =>
    obtain ⟨taken, left⟩ := takeWhile_dropWhile_eq_filter (travel e₁)
    rw [meetingOrder, taken, left] at order
    rcases List.append_eq_append_iff.mp order with ⟨middle, rfl, rest⟩ | ⟨middle, early, rest⟩
    · cases middle with
      | nil =>
        obtain ⟨same, -⟩ := List.cons_eq_cons.mp rest
        cases same
        simp
      | cons x middle =>
        obtain ⟨rfl, tail⟩ := List.cons_eq_cons.mp (rest.trans (List.cons_append ..))
        have later := ih (fun e => (travel e).filter _) tail
        simp only [List.mem_append, List.mem_cons, reduceCtorEq, false_or, later, List.mem_map, List.mem_filter,
          Sum.inl.injEq, Sum.inr.injEq, exists_eq_right, and_false, exists_false, or_and_right, exists_or, exists_eq_left,
          Bool.not_eq_true']
        cases e₁.precededBy up c <;> simp
    · cases middle with
      | nil =>
        rw [List.append_nil] at early
        obtain ⟨same, -⟩ := List.cons_eq_cons.mp rest
        cases same
        simp [← early]
      | cons x middle =>
        obtain ⟨rfl, -⟩ := List.cons_eq_cons.mp (rest.trans (List.cons_append ..))
        have edge : Sum.inr e ∈ (cs.filter (e₁.precededBy up)).map Sum.inl := by simp [early]
        simp at edge

/-! ### The crossings and edges of a segment taken (R113, R119 to R121) -/

theorem Edge.precededBy_iff {up : Bool} {e : Edge} {c : Crossing} :
    e.precededBy up c = true ↔ ∃ l x, e.latch = some l ∧ l.pos = some x ∧ c.before up x = true := by
  unfold Edge.precededBy Edge.latched
  cases latch : e.latch with
  | none => simp
  | some l => cases pos : l.pos <;> simp [pos]

/-- Upward, what lies below a position is reached before it, and nothing above it is (R120). -/
theorem Crossing.before_up (c : Crossing) (x : Int) :
    (c.before true x = true → c.place ≤ x) ∧ (c.place < x → c.before true x = true) := by
  cases c <;> simp only [Crossing.before, Crossing.place, if_true, decide_eq_true_eq] <;> omega

/-- Downward, what lies above a position is reached before it, and nothing below it is (R120). -/
theorem Crossing.before_down (c : Crossing) (x : Int) :
    (c.before false x = true → x ≤ c.place) ∧ (x < c.place → c.before false x = true) := by
  cases c <;> simp only [Crossing.before, Crossing.place, if_false, Bool.false_eq_true, decide_eq_true_eq] <;> omega

/-- The carriage reaches each crossing after those before it, whatever the edge (R120). -/
theorem Table.Ordered.crossings_travel {t : Table} (h : t.Ordered) (p0 p1 : Int) (e : Edge) :
    (t.crossings p0 p1).Pairwise fun c c' =>
      e.precededBy (decide (p0 < p1)) c' = true → e.precededBy (decide (p0 < p1)) c = true := by
  have nearer : ∀ (c c' : Crossing) (x : Int), (if p0 < p1 then c.place < c'.place else c'.place < c.place) →
      c'.before (decide (p0 < p1)) x = true → c.before (decide (p0 < p1)) x = true := fun c c' x apart reached => by
    by_cases up : p0 < p1
    · rw [decide_eq_true up] at reached ⊢
      rw [if_pos up] at apart
      exact (c.before_up x).2 (apart.trans_le ((c'.before_up x).1 reached))
    · rw [decide_eq_false up] at reached ⊢
      rw [if_neg up] at apart
      exact (c.before_down x).2 (((c'.before_down x).1 reached).trans_lt apart)
  have travel : (t.crossings p0 p1).Pairwise fun c c' => if p0 < p1 then c.place < c'.place else c'.place < c.place := by
    rcases lt_trichotomy p0 p1 with up | rfl | down
    · simpa only [up, if_true] using h.crossings_ascend up
    · have empty : t.crossings p0 p0 = [] :=
        List.eq_nil_iff_forall_not_mem.mpr fun c hc => by
          obtain ⟨r, -, hr⟩ := Table.mem_crossings.mp hc
          exact absurd hr (by simp [LineRec.crossings_still])
      simp [empty]
    · simpa only [down.not_gt, if_false] using h.crossings_descend down
  refine travel.imp fun {c c'} apart reached => ?_
  obtain ⟨l, x, latch, pos, reached⟩ := Edge.precededBy_iff.mp reached
  exact Edge.precededBy_iff.mpr ⟨l, x, latch, pos, nearer c c' x apart reached⟩

theorem insertByInstant_perm (e : Edge) (es : List Edge) : (insertByInstant e es).Perm (e :: es) := by
  induction es with
  | nil => exact .refl _
  | cons x xs ih =>
    unfold insertByInstant
    split
    · exact .refl _
    · exact (ih.cons x).trans (.swap e x xs)

theorem insertByInstant_pairwise {e : Edge} {es : List Edge} (h : es.Pairwise fun x y => x.a ≤ y.a) :
    (insertByInstant e es).Pairwise fun x y => x.a ≤ y.a := by
  induction h with
  | nil => exact List.pairwise_singleton _ _
  | @cons x xs first rest ih =>
    unfold insertByInstant
    split
    · next earlier =>
      exact .cons (List.forall_mem_cons.mpr ⟨earlier.le, fun y hy => earlier.le.trans (first y hy)⟩) (.cons first rest)
    · next later =>
      refine .cons (fun y hy => ?_) ih
      rcases List.mem_cons.mp ((insertByInstant_perm e xs).mem_iff.mp hy) with rfl | hy
      · exact not_lt.mp later
      · exact first y hy

/-- The edges of a segment are sorted by aligned instant (R120). -/
theorem sortEdges_sorts (es : List Edge) :
    (sortEdges es).Perm es ∧ (sortEdges es).Pairwise fun x y => x.a ≤ y.a := by
  unfold sortEdges
  suffices general : ∀ acc : List Edge, acc.Pairwise (fun x y => x.a ≤ y.a) →
      (es.foldl (fun acc e => insertByInstant e acc) acc).Perm (acc ++ es) ∧
        (es.foldl (fun acc e => insertByInstant e acc) acc).Pairwise fun x y => x.a ≤ y.a from general [] .nil
  induction es with
  | nil => exact fun acc sorted => ⟨by simp, sorted⟩
  | cons e es ih =>
    intro acc sorted
    obtain ⟨perm, pairwise⟩ := ih (insertByInstant e acc) (insertByInstant_pairwise sorted)
    exact ⟨perm.trans (((insertByInstant_perm e acc).append_right es).trans List.perm_middle.symm), pairwise⟩

/-- A crossing is taken in a segment of a running pass only (R119). -/
theorem State.takeCrossing_of_not_running {s : State} {belongs : Bool} (h : belongs = false ∨ s.trav.ctl ≠ .running)
    (c : Crossing) : s.takeCrossing belongs c = s := by
  refine if_neg fun taken => ?_
  obtain ⟨rfl, running⟩ := Bool.and_eq_true_iff.mp taken
  exact h.elim (by simp) (not_not.mpr ((State.running_iff s).mp running))

theorem State.takeCrossing_of_running {s : State} (running : s.trav.ctl = .running) (c : Crossing) :
    s.takeCrossing true c = match c with
      | .enter label side _ => s.takeEntry label side
      | .leave label side _ => s.takeLeave label side :=
  if_pos (by rw [(State.running_iff s).mpr running]; rfl)

/-- An entry begins an occupancy, or is passed over (R121). -/
theorem State.takeEntry_eq {s : State} {d : Dir} {r : LineRec} (dir : s.trav.dir = some d)
    (found : s.table.find r.label = some r) (side : Side) :
    s.takeEntry r.label side =
      if s.eng.occ = none ∧ r.eligible d = true ∧ side = d.firstSide then
        { s with eng := { s.eng with occ := some ⟨r.label, side, d, .none, none⟩ } }
      else s := by
  unfold State.takeEntry
  cases vacant : s.eng.occ <;> simp [dir, found]

theorem Dir.firstSide_eq (d : Dir) : d.firstSide = if d = .fwd then .low else .high := by cases d <;> rfl

/-- Settles O48: the crossings by `Table.mem_crossings` and their travel, the order of a segment by `meetingOrder`. -/
theorem crossingsFollowTheTravel : Obligations.CrossingsFollowTheTravel := by
  refine ⟨fun t p0 p1 l side pos ordered => ?_, fun s r d side pos running dir found => ?_,
    fun s belongs c => (State.takeCrossing_of_not_running · c), fun s belongs j p0 p1 ordered => ?_⟩
  · intro place
    have same : place = Crossing.place := by
      funext c
      cases c <;> rfl
    rw [same]
    exact ⟨Table.enter_mem_crossings, Table.leave_mem_crossings,
      fun up => List.pairwise_map.mpr (ordered.crossings_ascend up),
      fun down => List.pairwise_map.mpr (ordered.crossings_descend down)⟩
  · intro begins
    have taken := (State.takeCrossing_of_running running (.enter r.label side pos)).trans (State.takeEntry_eq dir found side)
    rw [Dir.firstSide_eq] at taken
    exact ⟨fun h => taken.trans (if_pos h), fun h => taken.trans (if_neg h)⟩
  · intro taken reached
    set here := s.eng.latches.filter fun e => decide (e.k < j)
    obtain ⟨perm, sorted⟩ := sortEdges_sorts here
    have reaches : ∀ c e, e.precededBy (decide (p0 < p1)) c = true ↔ reached c e := fun c e => by
      rw [Edge.precededBy_iff]
      refine exists_congr fun l => exists_congr fun x => and_congr_right fun _ => and_congr_right fun _ => ?_
      cases c <;> by_cases up : p0 < p1 <;> simp [Crossing.before, up]
    refine ⟨meetingOrder (decide (p0 < p1)) (sortEdges here) (s.table.crossings p0 p1), ?_, meetingOrder_crossings _ _ _,
      ?_, ?_, fun before after e order c => ?_⟩
    · have event : State.takeEvent belongs = fun s event => match event with
          | .inl c => s.takeCrossing belongs c
          | .inr e => s.takeEdge belongs e := by
        funext s event
        cases event <;> rfl
      exact event ▸ State.takeInOrder_eq_foldl belongs (decide (p0 < p1)) taken _ _
    · rwa [meetingOrder_edges]
    · rwa [meetingOrder_edges]
    · simpa only [reaches] using mem_before_edge (ordered.crossings_travel p0 p1) order c

end Sys2Proof.Machine

namespace Sys2Proof.Machine

/-! ### What a miss, a reject and a commit leave (R73, R75, R126, R127) -/

/-- A record found after its label's record is changed (R71). -/
theorem Table.find_modify {t : Table} {f : LineRec → LineRec} (place : LeavesPlace f) {l : Nat} {r : LineRec}
    (found : t.find l = some r) : (t.modify l f).find l = some (f r) := by
  have same : (fun x => decide (x.label = l)) ∘ (fun x => if x.label = l then f x else x) =
      fun x : LineRec => decide (x.label = l) := by
    funext x
    by_cases label : x.label = l <;> simp [label, (place x).1]
  have first : t.records.find? (fun x => decide (x.label = l)) = some r := found
  rw [Table.find, Table.modify, List.find?_map, same, first, Option.map_some, if_pos (Table.find_label found)]

section
variable {s : State} {l : Nat} {r : LineRec}

/-- A miss or reject counted, where the action of REJECT breaks nothing (R73, R127). -/
theorem State.countReject_effects (found : s.table.find l = some r) (spares : (s.source 12).action = .none) (x : Reject) :
    (s.countReject l x).eng = s.eng ∧ (s.countReject l x).trav = s.trav ∧
      ((s.countReject l x).source 12).raised = some ⟨min 255 ((s.source 12).count + 1), .reject l x⟩ ∧
      (s.countReject l x).table.find l = some (r.tally s.eng.missLimit x) := by
  have noted : s.countReject l x = (s.tally l x).note (.reject l x) := State.raise_eq_note (.inl spares)
  rw [noted]
  exact ⟨rfl, rfl, (s.tally l x).note_raised (.reject l x), Table.find_modify (LineRec.tally_place _ _) found⟩

/-- A commit, where the action of REC_COMPLETE breaks nothing (R75, R126). -/
theorem State.commit_effects (found : s.table.find l = some r) (spares : (s.source 11).action = .none) (d : Dir) (dev : Int) :
    let after := r.commit d dev s.trav.passNo
    let completes := r.state ≠ .complete ∧ after.state = .complete
    (s.commit l d dev).eng = s.eng ∧ (s.commit l d dev).table.find l = some after ∧
      (s.commit l d dev).source 12 = s.source 12 ∧
      (completes →
        ((s.commit l d dev).source 11).raised = some ⟨min 255 ((s.source 11).count + 1), .recComplete l⟩) ∧
      (¬completes → (s.commit l d dev).source 11 = s.source 11) := by
  intro after completes
  set u : State := { s with table := s.table.modify l (LineRec.commit d dev s.trav.passNo) }
  have committed : u.table.find l = some after := Table.find_modify (LineRec.commit_place d dev s.trav.passNo) found
  have label : after.label = l := Table.find_label committed
  have step : s.commit l d dev = u.raiseIfCompleted r after := by rw [State.commit, found]
  rw [step, State.raiseIfCompleted]
  by_cases done : completes
  · rw [if_pos done, label, State.raise_eq_note (.inl spares)]
    exact ⟨rfl, committed, u.source_note_ne (d := .recComplete l) (show (12 : Fin 16) ≠ 11 by decide),
      fun _ => u.note_raised (.recComplete l), fun no => absurd done no⟩
  · rw [if_neg done]
    exact ⟨rfl, committed, rfl, fun yes => absurd yes done, fun _ => rfl⟩

end

/-! ### The exit of the occupied window (R124) -/

section
variable {s : State} {o : Occ} {side : Side}

theorem State.exitOccupancy_of_spoiled {x : Reject} (h : o.outcome = .spoiled x) :
    s.exitOccupancy o side = s.vacate.countReject o.label x := by
  rw [State.exitOccupancy, h]

/-- An empty crossing is a MISS (R124). -/
theorem State.exitOccupancy_of_empty (h : o.outcome = .none) (far : side ≠ o.side) :
    s.exitOccupancy o side = s.vacate.countReject o.label .miss := by
  rw [State.exitOccupancy, h]
  exact congrArg (State.countReject _ _) (if_pos far)

theorem State.exitOccupancy_of_provisional {dev pos : Int} (h : o.outcome = .provisional dev pos) (far : side ≠ o.side) :
    s.exitOccupancy o side = s.vacate.commit o.label o.dir dev := by
  rw [State.exitOccupancy, h]
  exact if_pos far

/-- An exit at the side of the entry is a REVERSAL, whatever the occupancy holds unspoiled (R124). -/
theorem State.exitOccupancy_of_near (h : ∀ x, o.outcome ≠ .spoiled x) (near : side = o.side) :
    s.exitOccupancy o side = s.vacate.countReject o.label .reversal := by
  rw [State.exitOccupancy]
  cases outcome : o.outcome with
  | none => exact congrArg (State.countReject _ _) (if_neg (not_not.mpr near))
  | provisional dev pos => exact if_neg (not_not.mpr near)
  | spoiled x => exact absurd outcome (h x)

/-- An exit counts a reject or commits (R124). -/
theorem State.exitOccupancy_cases (s : State) (o : Occ) (side : Side) :
    (∃ x, s.exitOccupancy o side = s.vacate.countReject o.label x) ∨
      ∃ dev, s.exitOccupancy o side = s.vacate.commit o.label o.dir dev := by
  cases outcome : o.outcome with
  | spoiled x => exact .inl ⟨x, State.exitOccupancy_of_spoiled outcome⟩
  | none =>
    by_cases near : side = o.side
    · exact .inl ⟨_, State.exitOccupancy_of_near (by simp [outcome]) near⟩
    · exact .inl ⟨_, State.exitOccupancy_of_empty outcome near⟩
  | provisional dev pos =>
    by_cases near : side = o.side
    · exact .inl ⟨_, State.exitOccupancy_of_near (by simp [outcome]) near⟩
    · exact .inr ⟨dev, State.exitOccupancy_of_provisional outcome near⟩

theorem State.takeLeave_of_other {label : Nat}
    (other : ∀ o, s.eng.occ = some o → o.label ≠ label ∨ o.pending ≠ none) : s.takeLeave label side = s := by
  unfold State.takeLeave
  split
  · rfl
  · next o held => exact if_neg fun ⟨label, clear⟩ => (other o held).elim (· label) (· clear)

/-- The exit of the occupied window waits for the open pulse, and is taken at once where none is open (R124). -/
theorem State.takeLeave_of_occupied (held : s.eng.occ = some o) (clear : o.pending = none) :
    s.takeLeave o.label side =
      if s.eng.pulse = none then s.exitOccupancy o side
      else { s with eng := { s.eng with occ := some { o with pending := some side } } } := by
  simp only [State.takeLeave, held, clear, and_self, if_true]
  cases s.eng.pulse <;> rfl

theorem State.takePendingExit_of_clear (clear : ∀ o, s.eng.occ = some o → o.pending = none) : s.takePendingExit = s := by
  unfold State.takePendingExit
  split
  · rfl
  · next o held => rw [clear o held]

theorem State.takePendingExit_of_pending (held : s.eng.occ = some o) (pending : o.pending = some side) :
    s.takePendingExit = s.exitOccupancy o side := by
  simp only [State.takePendingExit, held, pending]

end

/-- Settles O50: the exits by whether they wait, and each outcome by what it counts or commits. -/
theorem exitDecidesTheOutcome : Obligations.ExitDecidesTheOutcome := by
  refine ⟨fun s label side pos running => ?_, fun s => ?_, fun s o r side found spares spares' => ?_⟩
  · intro t
    have taken : t = s.takeLeave label side := State.takeCrossing_of_running running (.leave label side pos)
    refine ⟨fun other => taken.trans (State.takeLeave_of_other other), fun o held same clear => ?_⟩
    subst same
    rw [taken, State.takeLeave_of_occupied held clear]
    exact ⟨fun opened => if_neg opened, fun closed => if_pos closed⟩
  · exact ⟨State.takePendingExit_of_clear, fun o side held pending => State.takePendingExit_of_pending held pending⟩
  · intro t raised bump
    have rejects := State.countReject_effects (s := s.vacate) found spares
    have commits := State.commit_effects (s := s.vacate) found spares' o.dir
    have counted : ∀ x, t = s.vacate.countReject o.label x →
        raised x ∧ t.table.find o.label = some (r.tally s.eng.missLimit x) := fun x h => by
      obtain ⟨-, trav, source, record⟩ := rejects x
      exact ⟨⟨h ▸ source, h ▸ trav⟩, h ▸ record⟩
    refine ⟨?_, fun dev pos outcome far => ?_, fun outcome far => ?_, fun outcome near => ?_, fun outcome => ?_,
      fun outcome => ?_, fun outcome => ?_, fun outcome => ?_⟩
    · obtain ⟨x, h⟩ | ⟨dev, h⟩ := s.exitOccupancy_cases o side
      · exact (congrArg State.eng h).trans (rejects x).1
      · exact (congrArg State.eng h).trans (commits dev).1
    · have h : t = s.vacate.commit o.label o.dir dev := State.exitOccupancy_of_provisional outcome far
      obtain ⟨-, record, reject, completes, stays⟩ := commits dev
      rw [h]
      exact ⟨record, reject, completes, stays⟩
    · exact counted .miss (State.exitOccupancy_of_empty outcome far)
    · exact counted .reversal (State.exitOccupancy_of_near outcome near)
    · exact counted .double (State.exitOccupancy_of_spoiled outcome)
    · exact counted .width (State.exitOccupancy_of_spoiled outcome)
    · exact counted .coast (State.exitOccupancy_of_spoiled outcome)
    · exact counted .interrupted (State.exitOccupancy_of_spoiled outcome)

end Sys2Proof.Machine

namespace Sys2Proof.Machine

/-! ### HOME (R117, R128, R129) -/

/-- A pass end leaves the velocity ring, or empties it by its PASS-HOLD step (R61, R98). -/
theorem State.endPass_ring (s : State) (kind : EndKind) (inStop : Bool) :
    (s.endPass kind inStop).trav.ring = s.trav.ring ∨ (s.endPass kind inStop).trav.ring = [] := by
  have applied : ∀ (u : State) (nu : Int) (t : Option Int),
      (u.applyValues nu t).trav.ring = u.trav.ring ∨ (u.applyValues nu t).trav.ring = [] := by
    intro u nu t
    unfold State.applyValues
    dsimp only
    split
    · exact .inr rfl
    · exact .inl rfl
  have held : ∀ u : State, u.passHoldStep.trav.ring = u.trav.ring ∨ u.passHoldStep.trav.ring = [] := fun u => by
    unfold State.passHoldStep
    split
    · exact applied u _ _
    · exact .inl rfl
  by_cases running : s.trav.ctl = .running
  · rw [State.endPass_trav_eq running]
    have closed := held (((s.leaveRunning).dropPulse .interrupted).closeOccupancy kind)
    rwa [State.closeOccupancy_trav, State.dropPulse_trav] at closed
  · rw [State.endPass_of_not_running running]
    exact .inl rfl

theorem State.partnerMeets_iff {s : State} {p : Channel → Bool} :
    s.partnerMeets p = true ↔ ∀ f, s.partner = some f → p (s.chan f) = true := by
  unfold State.partnerMeets
  cases s.partner <;> simp

theorem Channel.tracking_iff {ch : Channel} : ch.tracking = true ↔ ch.state = .tracking := decide_eq_true_iff

/-- A channel with its origin set at a strobe (R16, R129). -/
def State.homed (s : State) (c : Fin 4) (o : Int) : Channel :=
  { s.chan c with origin := o, referenced := true, nu0 := s.comp.nuApplied }

/-- What the origins of MEASURE and PARTNER become at a strobe (R129). -/
theorem State.setOrigins_chan (s : State) (rawM rawP : Int) :
    (s.partner ≠ some 0 → (s.setOrigins rawM rawP).chan 0 = s.homed 0 rawM) ∧
      (∀ f, s.partner = some f → (s.setOrigins rawM rawP).chan f = s.homed f rawP) ∧
      ∀ c : Fin 4, c ≠ 0 → s.partner ≠ some c → (s.setOrigins rawM rawP).chan c = s.chan c := by
  unfold State.setOrigins
  cases partner : s.partner with
  | none => exact ⟨fun _ => State.chan_setChan_self _ _ _, by simp, fun c other _ => State.chan_setChan_ne _ _ other⟩
  | some p =>
    refine ⟨fun other => ?_, fun f held => ?_, fun c other other' => ?_⟩
    · exact (State.chan_setChan_ne _ _ fun same => other (congrArg some same.symm)).trans (State.chan_setChan_self _ _ _)
    · obtain rfl := Option.some.inj held
      refine (State.chan_setChan_self _ _ _).trans ?_
      rw [State.setOrigin, State.chan_setChan]
      by_cases zero : p = 0
      · rw [if_pos zero, zero]
        rfl
      · rw [if_neg zero]
        rfl
    · exact (State.chan_setChan_ne _ _ fun same => other' (congrArg some same.symm)).trans (State.chan_setChan_ne _ _ other)

/-- HOME's strobe qualifies (R129). -/
def State.HomeQualifies (s : State) (sound : Prop) : Prop :=
  s.eng.home = true ∧ sound ∧ (s.chan 0).state = .tracking ∧ ∀ f, s.partner = some f → (s.chan f).state = .tracking

/-- The part at a strobe that qualifies, before HOME_DONE is raised. -/
def State.atHome (s : State) (rawM rawP : Int) : State :=
  { s with
    chans := (s.setOrigins rawM rawP).chans, eng := { s.eng with home := false }, trav := { s.trav with ring := [] } }

theorem State.setOrigins_frame (s : State) (rawM rawP : Int) :
    s.setOrigins rawM rawP = { s with chans := (s.setOrigins rawM rawP).chans } := by
  unfold State.setOrigins
  cases s.partner <;> rfl

theorem State.offerHome_of_qualifies {s : State} {homeValid : Bool} (h : s.HomeQualifies (homeValid = true)) (rawM rawP : Int) :
    s.offerHome homeValid rawM rawP = (s.atHome rawM rawP).raise (.homeDone s.partner) := by
  obtain ⟨armed, valid, measure, partner⟩ := h
  have met : s.partnerMeets Channel.tracking = true :=
    State.partnerMeets_iff.mpr fun f held => Channel.tracking_iff.mpr (partner f held)
  have offered : (s.eng.home && homeValid && s.measure.tracking && s.partnerMeets Channel.tracking) = true := by
    rw [armed, valid, met, State.measure, Channel.tracking_iff.mpr measure]
    rfl
  refine (if_pos offered).trans ?_
  rw [State.atHome, State.setOrigins_frame]
  rfl

theorem State.offerHome_of_not_qualifies {s : State} {homeValid : Bool} (h : ¬s.HomeQualifies (homeValid = true))
    (rawM rawP : Int) : s.offerHome homeValid rawM rawP = s := by
  refine if_neg fun offered => h ?_
  simp only [Bool.and_eq_true, State.partnerMeets_iff, Channel.tracking_iff] at offered
  obtain ⟨⟨⟨armed, valid⟩, measure⟩, partner⟩ := offered
  exact ⟨armed, valid, measure, partner⟩

/-- What a strobe offered to HOME leaves, from the part `s` to the part `t`, with `u` the part where it does not qualify
(R129). -/
def State.OffersHome (s u t : State) (sound : Prop) (rawM rawP : Int) : Prop :=
  (¬s.HomeQualifies sound → t = u) ∧
  (s.HomeQualifies sound →
    (s.partner ≠ some 0 → t.chan 0 = s.homed 0 rawM) ∧ (∀ f, s.partner = some f → t.chan f = s.homed f rawP) ∧
    (∀ c : Fin 4, c ≠ 0 → s.partner ≠ some c → t.chan c = s.chan c) ∧
    t.eng.home = false ∧ t.trav.ring = [] ∧
    (t.source 8).raised = some ⟨min 255 ((s.source 8).count + 1), .homeDone s.partner⟩ ∧
    ((s.source 8).action = .none ∨ s.trav.ctl ≠ .running →
      t.table = s.table ∧ t.tracks = s.tracks ∧ t.trav = { s.trav with ring := [] } ∧
        t.eng = { u.eng with home := false }))

theorem State.offersHome (s : State) (homeValid : Bool) (rawM rawP : Int) :
    s.OffersHome s (s.offerHome homeValid rawM rawP) (homeValid = true) rawM rawP := by
  refine ⟨fun h => State.offerHome_of_not_qualifies h rawM rawP, fun h => ?_⟩
  rw [State.offerHome_of_qualifies h]
  set v := s.atHome rawM rawP
  have chan : ∀ c, (v.raise (.homeDone s.partner)).chan c = (s.setOrigins rawM rawP).chan c :=
    State.chan_congr (v.raise_chans _)
  obtain ⟨measure, partner, others⟩ := s.setOrigins_chan rawM rawP
  simp only [chan]
  refine ⟨measure, partner, others, ?_, ?_, ?_, fun spares => ?_⟩
  · obtain eng | eng := v.raise_eng (.homeDone s.partner) <;> rw [eng] <;> rfl
  · obtain e | ⟨e, -, -⟩ := v.raise_cases (.homeDone s.partner) <;> rw [e]
    · rfl
    · exact (State.endPass_ring (v.note _) _ _).elim id id
  · have raised := v.note_raised (.homeDone s.partner)
    obtain e | ⟨e, -, -⟩ := v.raise_cases (.homeDone s.partner) <;> rw [e]
    · exact raised
    · rw [State.endPass_source _ _ _ (by decide) (by decide) (by decide)]
      exact raised
  · rw [State.raise_eq_note (s := v) (d := .homeDone s.partner) spares]
    exact ⟨rfl, rfl, rfl, rfl⟩

/-- The mean of two, a half going upward (R1). -/
theorem divNearest_two (a : Int) : divNearest a 2 = (a + 1) / 2 := by
  unfold divNearest
  omega

/-- A pulse's width lies in the band, its ends included (R117). -/
theorem Engine.inBand_iff {e : Engine} {d : Int} : e.inBand (mag d) = true ↔ e.wMin ≤ |d| ∧ |d| ≤ e.wMax := by
  simp [Engine.inBand, mag_eq_abs]

/-- A pulse closed outside a running pass stands for a strobe of HOME while its width lies in the band (R117, R129). -/
theorem State.closePulse_offersHome {s : State} {belongs : Bool} (outside : (belongs && s.running) = false) {p : OpenPulse}
    {l : Latched} {lead trail : Int} (leads : p.lead.pos = some lead) (trails : l.pos = some trail) :
    s.OffersHome { s with eng := { s.eng with pulse := none } } (s.closePulse belongs p l)
      ((s.eng.wMin ≤ |trail - lead| ∧ |trail - lead| ≤ s.eng.wMax) ∧ p.lead.homeValid = true ∧ l.homeValid = true)
      ((p.lead.rawM + l.rawM + 1) / 2) ((p.lead.rawP + l.rawP + 1) / 2) := by
  set s' : State := { s with eng := { s.eng with pulse := none } }
  have closed : s.closePulse belongs p l =
      if s.eng.inBand (mag (trail - lead)) then
        s'.offerHome (p.lead.homeValid && l.homeValid) (divNearest (p.lead.rawM + l.rawM) 2)
          (divNearest (p.lead.rawP + l.rawP) 2)
      else s' := by
    simp only [State.closePulse, outside, leads, trails, Bool.false_eq_true, if_false]
    rfl
  rw [closed, ← divNearest_two, ← divNearest_two]
  by_cases band : s.eng.wMin ≤ |trail - lead| ∧ |trail - lead| ≤ s.eng.wMax
  · rw [if_pos (Engine.inBand_iff.mpr band)]
    have offered := s'.offersHome (p.lead.homeValid && l.homeValid) (divNearest (p.lead.rawM + l.rawM) 2)
      (divNearest (p.lead.rawP + l.rawP) 2)
    rw [Bool.and_eq_true, ← and_iff_right (b := p.lead.homeValid = true ∧ l.homeValid = true) band] at offered
    exact offered
  · rw [if_neg (mt Engine.inBand_iff.mp band)]
    exact ⟨fun _ => rfl, fun qualifies => absurd qualifies.2.1.1 band⟩

/-- Settles O51: a strobe, or the pulse that stands for it, is offered to HOME as `State.offersHome` says. -/
theorem homeStrobeSetsTheOrigins : Obligations.HomeStrobeSetsTheOrigins := by
  intro s e l belongs latch outside t offered
  have notTaken : (belongs && s.running) = false := Bool.eq_false_iff.mpr fun taken =>
    have ⟨belonging, running⟩ := Bool.and_eq_true_iff.mp taken
    outside belonging ((State.running_iff s).mp running)
  have latched : e.latched = l := by rw [Edge.latched, latch, Option.getD_some]
  refine ⟨fun strobe => ?_, fun p lead trail trailing held leads trails => ?_⟩
  · have taken : t = s.offerHome l.homeValid l.rawM l.rawP := by
      simp only [t, State.takeEdge, strobe, latched, notTaken, Bool.false_eq_true, if_false]
    rw [show offered = fun u sound rawM rawP => s.OffersHome u t sound rawM rawP from rfl, taken]
    exact s.offersHome _ _ _
  · have taken : t = s.closePulse belongs p l := by
      simp only [t, State.takeEdge, trailing, latched, held]
    rw [show offered = fun u sound rawM rawP => s.OffersHome u t sound rawM rawP from rfl, taken]
    exact State.closePulse_offersHome notTaken leads trails

end Sys2Proof.Machine

namespace Sys2Proof.Machine

/-! ### A strobe matched by its position (R122, R123) -/

theorem Table.at_eq_none {t : Table} {p : Int} :
    t.at p = none ↔ ∀ r ∈ t.records, p < r.n - r.w ∨ r.n + r.w < p := by
  rw [Table.at, List.find?_eq_none]
  refine forall₂_congr fun r _ => ?_
  rw [LineRec.contains_iff]
  omega

section
variable {s : State} {p : Int} {valid inBand : Bool} {reason : Reject} {r : LineRec} {o : Occ}

/-- A strobe outside every window is a stray (R122, R123). -/
theorem State.matchStrobe_of_outside (outside : s.table.at p = none) :
    s.matchStrobe (some p) valid reason inBand = s.stray (some p) := by
  simp only [State.matchStrobe, outside]

/-- A strobe in a window not occupied is ignored (R122). -/
theorem State.matchStrobe_of_unoccupied (inside : s.table.at p = some r)
    (other : ∀ o, s.eng.occ = some o → o.label ≠ r.label) : s.matchStrobe (some p) valid reason inBand = s := by
  simp only [State.matchStrobe, inside]
  split
  · rfl
  · next o held => exact if_neg (other o held)

theorem State.matchStrobe_of_occupied (inside : s.table.at p = some r) (held : s.eng.occ = some o)
    (same : o.label = r.label) :
    s.matchStrobe (some p) valid reason inBand = s.strobeInOccupied o (p - r.n) p valid reason inBand := by
  simp only [State.matchStrobe, inside, held, same, if_true]

/-- The occupancy held takes another outcome. -/
def State.withOutcome (s : State) (o : Occ) (x : OccOutcome) : State :=
  { s with eng := { s.eng with occ := some { o with outcome := x } } }

theorem State.spoil_of_spoiled {first : Reject} (held : s.eng.occ = some o) (spoiled : o.outcome = .spoiled first)
    (x : Reject) : s.spoil x = s := by
  simp only [State.spoil, held, spoiled]

theorem State.spoil_of_unspoiled (held : s.eng.occ = some o) (clean : ∀ first, o.outcome ≠ .spoiled first) (x : Reject) :
    s.spoil x = s.withOutcome o (.spoiled x) := by
  rw [State.spoil_eq, held, Option.map_some, Occ.spoiledBy_of_unspoiled clean]
  rfl

/-- The rows of R122's table, in their order. -/
theorem State.strobeInOccupied_rows (held : s.eng.occ = some o) (dev : Int) :
    let t := s.strobeInOccupied o dev p valid reason inBand
    (∀ first, o.outcome = .spoiled first → t = s) ∧
    (valid = false → (∀ first, o.outcome ≠ .spoiled first) → t = s.withOutcome o (.spoiled reason)) ∧
    (valid = true → inBand = false → (∀ first, o.outcome ≠ .spoiled first) →
      t = s.withOutcome o (.spoiled .width)) ∧
    (valid = true → inBand = true → o.outcome = .none → t = s.withOutcome o (.provisional dev p)) ∧
    (∀ dev' pos, valid = true → inBand = true → o.outcome = .provisional dev' pos →
      t = s.withOutcome o (.spoiled .double)) := by
  intro t
  refine ⟨fun first spoiled => ?_, fun bad clean => ?_, fun good wide clean => ?_, fun good band empty => ?_,
    fun dev' pos good band taken => ?_⟩
  · have kept := State.spoil_of_spoiled held spoiled
    simp only [t, State.strobeInOccupied, spoiled, kept, ite_self]
  · exact (if_pos bad).trans (State.spoil_of_unspoiled held clean reason)
  · refine Eq.trans ?_ (State.spoil_of_unspoiled held clean .width)
    simp [t, State.strobeInOccupied, good, wide]
  · simp [t, State.strobeInOccupied, good, band, empty, State.withOutcome]
  · refine Eq.trans ?_ (State.spoil_of_unspoiled held (by simp [taken]) .double)
    simp [t, State.strobeInOccupied, good, band, taken]

end

/-! ### Pulses opened, closed and discarded (R117, R118, R124) -/

section
variable {s : State}

theorem State.discardPulse_of_none (closed : s.eng.pulse = none) (x : Reject) : s.discardPulse x = s :=
  if_neg (by rw [closed]; exact Bool.false_ne_true)

/-- A pulse discarded spoils the occupancy, and the pending exit is taken (R118). -/
theorem State.discardPulse_of_some (opened : s.eng.pulse ≠ none) (x : Reject) :
    s.discardPulse x = ({ s with eng := { s.eng with pulse := none } }.spoil x).takePendingExit := by
  obtain ⟨q, held⟩ := Option.ne_none_iff_exists'.mp opened
  simp only [State.discardPulse, State.dropPulse, held, Option.isSome_some, if_true]

/-- What a discarded pulse leaves: it is closed, and with it the occupancy may be spoiled, or counted as a reject where its exit
was pending: an occupancy that is spoiled commits nothing (R118, R124). -/
theorem State.discardPulse_cases (s : State) (x : Reject) :
    (s.eng.pulse = none ∧ s.discardPulse x = s) ∨
      (s.eng.pulse ≠ none ∧ s.discardPulse x =
        { s with eng := { s.eng with pulse := none, occ := s.eng.occ.map (·.spoiledBy x) } }) ∨
      (s.eng.pulse ≠ none ∧ ∃ o y, s.eng.occ = some o ∧ s.discardPulse x =
        { s with eng := { s.eng with pulse := none, occ := none } }.countReject o.label y) := by
  by_cases closed : s.eng.pulse = none
  · exact .inl ⟨closed, State.discardPulse_of_none closed x⟩
  refine .inr ?_
  rw [State.discardPulse_of_some closed, State.spoil_eq]
  by_cases waits : ∃ o side, s.eng.occ = some o ∧ o.pending = some side
  · obtain ⟨o, side, held, pending⟩ := waits
    obtain ⟨y, spoiled⟩ : ∃ y, (o.spoiledBy x).outcome = .spoiled y := by
      unfold Occ.spoiledBy
      cases o.outcome <;> exact ⟨_, rfl⟩
    refine .inr ⟨closed, o, y, held, ?_⟩
    rw [State.takePendingExit_of_pending (o := o.spoiledBy x) (side := side) (by simp [held]) (by exact pending),
      State.exitOccupancy_of_spoiled spoiled]
    rfl
  · refine .inl ⟨closed, State.takePendingExit_of_clear fun o' held' => ?_⟩
    obtain ⟨o, held, rfl⟩ := Option.map_eq_some_iff.mp held'
    by_contra pending
    obtain ⟨side, pending⟩ := Option.ne_none_iff_exists'.mp pending
    exact waits ⟨o, side, held, pending⟩

theorem State.countReject_pulse {l : Nat} {x : Reject} (closed : s.eng.pulse = none) :
    (s.countReject l x).eng.pulse = none := by
  obtain h | h := (s.tally l x).raise_eng (.reject l x) <;> rw [State.countReject, h]
  exact closed

theorem State.discardPulse_pulse (s : State) (x : Reject) : (s.discardPulse x).eng.pulse = none := by
  obtain ⟨closed, h⟩ | ⟨-, h⟩ | ⟨-, o, y, -, h⟩ := s.discardPulse_cases x <;> rw [h]
  · exact closed
  · exact State.countReject_pulse rfl

/-- A pulse opened and discarded at once spoils as a discarded one does (R118). -/
theorem State.discardPulse_opened (closed : s.eng.pulse = none) (q : OpenPulse) (x : Reject) :
    { s with eng := { s.eng with pulse := some q } }.discardPulse x = (s.spoil x).takePendingExit := by
  rw [State.discardPulse_of_some (Option.some_ne_none q)]
  dsimp only
  rw [← closed]

/-- A leading edge opens a pulse, or is discarded at once where it is unsound (R117, R118). -/
theorem State.openPulse_eq (closed : s.eng.pulse = none) (l : Latched) (opens : s.trav.ctl = .running ∨ s.eng.home = true) :
    s.openPulse l = if (if s.running then l.valid else l.homeValid) = true then
      { s with eng := { s.eng with pulse := some ⟨l, !s.running⟩ } } else (s.spoil l.reason).takePendingExit := by
  rw [← State.discardPulse_opened closed ⟨l, !s.running⟩]
  exact if_pos (by rw [Bool.or_eq_true, State.running_iff]; exact opens)

theorem State.openPulse_of_idle (l : Latched) (still : s.trav.ctl ≠ .running) (unarmed : s.eng.home = false) :
    s.openPulse l = s :=
  if_neg (by rw [Bool.or_eq_true, State.running_iff, unarmed]; exact fun h => h.elim still Bool.false_ne_true)

/-- A trailing edge in a running pass: the centre of the pulse is matched, and the pending exit is taken (R117, R124). -/
theorem State.closePulse_of_running {p : OpenPulse} {lead : Int} (running : s.trav.ctl = .running)
    (leads : p.lead.pos = some lead) (l : Latched) :
    s.closePulse true p l =
      ({ s with eng := { s.eng with pulse := none } }.matchStrobe (l.pos.map fun t => (lead + t + 1) / 2) l.valid l.reason
        (s.eng.inBand (mag (l.pos.getD lead - lead)))).takePendingExit := by
  simp only [State.closePulse, (State.running_iff s).mpr running, leads, Bool.and_self, if_true, divNearest_two]
  rfl

end

/-! ### The checks of an open pulse (R118) -/

theorem allEntries_iff {p : HistEntry → Bool} {es : List (Option HistEntry)} :
    allEntries p es = true ↔ ∀ h ∈ es, ∃ v, h = some v ∧ p v = true := by
  rw [allEntries, List.all_eq_true]
  refine forall₂_congr fun h _ => ?_
  cases h <;> simp

theorem HistEntry.tracks_iff {v : HistEntry} : v.tracks = true ↔ v.state = .tracking := decide_eq_true_iff

theorem HistEntry.sound_iff {v : HistEntry} : v.sound = true ↔ v.state = .tracking ∧ v.referenced = true := by
  rw [HistEntry.sound, Bool.and_eq_true, HistEntry.tracks_iff]

theorem entriesReason_of_coasting {es : List (Option HistEntry)} (h : ∃ v, some v ∈ es ∧ v.state = .coasting) :
    entriesReason es = .coast := by
  obtain ⟨v, member, coasts⟩ := h
  exact if_pos (List.any_eq_true.mpr ⟨some v, member, decide_eq_true coasts⟩)

theorem entriesReason_of_not_coasting {es : List (Option HistEntry)} (h : ∀ v, some v ∈ es → v.state ≠ .coasting) :
    entriesReason es = .interrupted := by
  refine if_neg fun any => ?_
  obtain ⟨e, member, coasts⟩ := List.any_eq_true.mp any
  cases e with
  | none => exact Bool.false_ne_true coasts
  | some v => exact h v member (of_decide_eq_true coasts)

section
variable {s : State} {q : OpenPulse}

theorem State.checkWidth_of_none (closed : s.eng.pulse = none) (p : Int) : s.checkWidth p = s := by
  rw [State.checkWidth, closed]

theorem State.checkSound_of_none (closed : s.eng.pulse = none) (j : Nat) : s.checkSound j = s := by
  rw [State.checkSound, closed]

theorem State.checkWidth_of_some {lead : Int} (opened : s.eng.pulse = some q) (leads : q.lead.pos = some lead) (p : Int) :
    s.checkWidth p = if s.eng.wMax < |p - lead| then s.discardPulse .width else s := by
  simp only [State.checkWidth, opened, leads, Option.getD_some, mag_eq_abs]

theorem State.checkSound_of_some (opened : s.eng.pulse = some q) (j : Nat) :
    s.checkSound j =
      if allEntries (if q.forHome then HistEntry.tracks else HistEntry.sound) (s.entriesAt j) then s
      else s.discardPulse (entriesReason (s.entriesAt j)) := by
  simp only [State.checkSound, opened]

/-- Before HOME a pulse asks its entries for TRACKING, in a pass for TRACKING and referenced (R118). -/
theorem allEntries_forHome_iff {es : List (Option HistEntry)} :
    allEntries (if q.forHome then HistEntry.tracks else HistEntry.sound) es = true ↔
      ∀ h ∈ es, ∃ v, h = some v ∧ v.state = .tracking ∧ (q.forHome = false → v.referenced = true) := by
  rw [allEntries_iff]
  refine forall₂_congr fun h _ => exists_congr fun v => and_congr_right fun _ => ?_
  cases q.forHome
  · simp [HistEntry.sound_iff]
  · simp [HistEntry.tracks_iff]

end

/-- Settles O49: a strobe by `State.strobeInOccupied_rows`; an edge of a pulse by what it opens, closes and discards; the checks
by the width and by the entries. -/
theorem strobeIsMatchedByItsPosition : Obligations.StrobeIsMatchedByItsPosition := by
  refine ⟨fun s p valid inBand reason ordered => ?_, fun s e l belongs latch => ?_⟩
  · intro t strayed
    refine ⟨rfl, fun outside => State.matchStrobe_of_outside (Table.at_eq_none.mpr outside), fun r member above below => ?_⟩
    have inside : s.table.at p = some r := (Table.at_eq_some ordered).mpr ⟨member, above, below⟩
    refine ⟨fun other => State.matchStrobe_of_unoccupied inside other, fun o held same => ?_⟩
    have rows := State.strobeInOccupied_rows (valid := valid) (inBand := inBand) (reason := reason) (p := p) held (p - r.n)
    rw [← State.matchStrobe_of_occupied inside held same] at rows
    exact rows
  · intro passes reason closed spoil exits discarded
    have latched : e.latched = l := by rw [Edge.latched, latch, Option.getD_some]
    have spoils : ∀ x u, spoil x u = u.spoil x := fun x u => by
      rw [State.spoil_eq]
      exact congrArg (fun f => { u with eng := { u.eng with occ := u.eng.occ.map f } })
        (funext fun o => (o.spoiledBy_eq x).symm)
    have taken : ∀ u, exits u = u.takePendingExit := fun u => rfl
    have discards : ∀ x, s.discardPulse x = discarded x := fun x => by
      simp only [discarded, taken, spoils]
      split
      · next shut => exact State.discardPulse_of_none shut x
      · next opened => exact State.discardPulse_of_some opened x
    refine ⟨fun strobe pass => ?_, fun leading => ?_, fun trailing shut => ?_, fun p lead trailing opened leads pass => ?_,
      discards, fun shut => ⟨State.checkWidth_of_none shut, State.checkSound_of_none shut⟩,
      fun pulse lead opened leads => ⟨fun p => ?_, fun j => ?_⟩⟩
    · obtain ⟨rfl, running⟩ := pass
      simp only [State.takeEdge, strobe, latched, (State.running_iff s).mpr running]
      rfl
    · intro u opens
      have step : s.takeEdge belongs e = u.openPulse l := by
        simp only [State.takeEdge, leading, latched, discards]
        rfl
      have shut : u.eng.pulse = none :=
        (congrArg (·.eng.pulse) (discards .interrupted)).symm.trans (s.discardPulse_pulse .interrupted)
      simp only [taken, spoils]
      refine ⟨fun running => ?_, fun still armed => ?_,
        fun still unarmed => step.trans (State.openPulse_of_idle l still unarmed)⟩
      · rw [step, State.openPulse_eq shut l (.inl running), (State.running_iff u).mpr running]
        rfl
      · have waiting : u.running = false := Bool.eq_false_iff.mpr (mt (State.running_iff u).mp still)
        rw [step, State.openPulse_eq shut l (.inr armed), waiting]
        rfl
    · simp only [State.takeEdge, trailing, shut]
    · obtain ⟨rfl, running⟩ := pass
      have step : s.takeEdge true e = s.closePulse true p l := by
        simp only [State.takeEdge, trailing, latched, opened]
      rw [State.closePulse_of_running running leads] at step
      refine ⟨fun trail trails => step.trans ?_, fun lost => step.trans ?_⟩
      · have band : s.eng.inBand (mag (trail - lead)) =
            decide (s.eng.wMin ≤ |trail - lead| ∧ |trail - lead| ≤ s.eng.wMax) :=
          Bool.eq_iff_iff.mpr (Engine.inBand_iff.trans decide_eq_true_iff.symm)
        simp only [trails, Option.map_some, Option.getD_some, band, taken]
        rfl
      · simp only [lost, Option.map_none, taken]
        rfl
    · rw [← discards]
      exact State.checkWidth_of_some opened leads p
    · intro entries sound
      have check := State.checkSound_of_some opened j
      rw [show s.entriesAt j = entries from rfl] at check
      have asked : allEntries (if pulse.forHome then HistEntry.tracks else HistEntry.sound) entries = true ↔ sound :=
        allEntries_forHome_iff
      refine ⟨fun met => check.trans (if_pos (asked.mpr met)), fun unmet coasts => ?_, fun unmet others => ?_⟩
      · rw [check, if_neg (mt asked.mp unmet), discards, entriesReason_of_coasting coasts]
      · rw [check, if_neg (mt asked.mp unmet), discards, entriesReason_of_not_coasting others]

end Sys2Proof.Machine

namespace Sys2Proof.Machine

/-! ### What an aligned sample may do to the pass (R104, R105, R150) -/

/-- From `s` to `t` the aligned track stands still, and so does the controller, but that its velocity ring may be emptied and
that a running pass may be broken (R98, R104, R105). -/
structure State.RunsOrBreaks (s t : State) : Prop where
  tracks : t.tracks = s.tracks
  trav : t.trav = { s.trav with ctl := t.trav.ctl, broken := t.trav.broken, ring := t.trav.ring }
  ring : t.trav.ring = s.trav.ring ∨ t.trav.ring = []
  still : s.trav.ctl ≠ .running → t.trav.ctl = s.trav.ctl ∧ t.source 9 = s.source 9
  runs : s.trav.ctl = .running → t.trav.ctl = .running ∨
    (t.trav.ctl = .waiting ∧ ∃ n, (t.source 9).raised = some ⟨n, .passEnd s.trav.passNo (s.trav.dir.getD .fwd) .broken⟩)

/-- Nothing of the pass, the tracks or the attention unit changes. -/
theorem State.runsOrBreaks_of_same {s t : State} (tracks : t.tracks = s.tracks) (trav : t.trav = s.trav)
    (att : t.att = s.att) : s.RunsOrBreaks t where
  tracks := tracks
  trav := by rw [trav]
  ring := .inl (by rw [trav])
  still _ := ⟨by rw [trav], State.source_congr att 9⟩
  runs running := .inl (by rw [trav, running])

theorem State.RunsOrBreaks.refl (s : State) : s.RunsOrBreaks s := State.runsOrBreaks_of_same rfl rfl rfl

theorem State.RunsOrBreaks.trans {s t u : State} (h : s.RunsOrBreaks t) (h' : t.RunsOrBreaks u) : s.RunsOrBreaks u where
  tracks := h'.tracks.trans h.tracks
  trav := by rw [h'.trav, h.trav]
  ring := h'.ring.elim (fun same => same ▸ h.ring) .inr
  still stopped := by
    obtain ⟨ctl, source⟩ := h.still stopped
    obtain ⟨ctl', source'⟩ := h'.still (ctl ▸ stopped)
    exact ⟨ctl'.trans ctl, source'.trans source⟩
  runs running := by
    have pass : t.trav.passNo = s.trav.passNo ∧ t.trav.dir = s.trav.dir := by
      rw [h.trav]
      exact ⟨rfl, rfl⟩
    obtain ran | ⟨waits, raised⟩ := h.runs running
    · have := h'.runs ran
      rwa [pass.1, pass.2] at this
    · obtain ⟨ctl, source⟩ := h'.still (by simp [waits])
      exact .inr ⟨ctl.trans waits, source ▸ raised⟩

theorem State.RunsOrBreaks.foldl {α : Type} {f : State → α → State} (h : ∀ (s : State) (a : α), s.RunsOrBreaks (f s a))
    (xs : List α) (s : State) : s.RunsOrBreaks (xs.foldl f s) := by
  induction xs generalizing s with
  | nil => exact .refl s
  | cons x xs ih => exact (h s x).trans (ih _)

theorem State.RunsOrBreaks.ite {s t u : State} (p : Prop) [Decidable p] (ht : s.RunsOrBreaks t) (hu : s.RunsOrBreaks u) :
    s.RunsOrBreaks (if p then t else u) := by
  split
  · exact ht
  · exact hu

theorem State.runsOrBreaks_eng (s : State) (e : Engine) : s.RunsOrBreaks { s with eng := e } :=
  State.runsOrBreaks_of_same rfl rfl rfl

theorem State.runsOrBreaks_table (s : State) (t : Table) : s.RunsOrBreaks { s with table := t } :=
  State.runsOrBreaks_of_same rfl rfl rfl

theorem State.runsOrBreaks_endPass {s : State} (running : s.trav.ctl = .running) :
    s.RunsOrBreaks (s.endPass .broken false) where
  tracks := s.endPass_tracks _ _
  trav := by rw [State.endPass_broken_trav running]
  ring := s.endPass_ring _ _
  still stopped := absurd running stopped
  runs _ := by
    refine .inr ⟨by rw [State.endPass_broken_trav running], ?_⟩
    rw [State.endPass_source_passEnd running, Source.raise_raised]
    exact ⟨_, rfl⟩

theorem State.runsOrBreaks_note (s : State) {d : Detail} (other : d.source ≠ 9) : s.RunsOrBreaks (s.note d) where
  tracks := rfl
  trav := rfl
  ring := .inl rfl
  still _ := ⟨rfl, State.source_note_ne s other.symm⟩
  runs running := .inl running

/-- A raising lets a running pass run on or breaks it (R149, R150). -/
theorem State.runsOrBreaks_raise (s : State) {d : Detail} (other : d.source ≠ 9) : s.RunsOrBreaks (s.raise d) := by
  have noted := s.runsOrBreaks_note other
  obtain h | ⟨h, -, running⟩ := s.raise_cases d <;> rw [h]
  · exact noted
  · exact noted.trans (State.runsOrBreaks_endPass (s := s.note d) running)

/-! ### Occupancy, crossings and strobes of a pass (R119 to R127) -/

theorem State.runsOrBreaks_spoil (s : State) (reason : Reject) : s.RunsOrBreaks (s.spoil reason) := by
  rw [State.spoil_eq]
  exact s.runsOrBreaks_eng _

theorem State.runsOrBreaks_countReject (s : State) (label : Nat) (reason : Reject) :
    s.RunsOrBreaks (s.countReject label reason) :=
  (s.runsOrBreaks_table _).trans (State.runsOrBreaks_raise _ (show (12 : Fin 16) ≠ 9 by decide))

theorem State.runsOrBreaks_commit (s : State) (label : Nat) (d : Dir) (dev : Int) :
    s.RunsOrBreaks (s.commit label d dev) := by
  refine (s.runsOrBreaks_table (s.table.modify label (LineRec.commit d dev s.trav.passNo))).trans ?_
  unfold State.commit
  dsimp only
  split
  · exact .refl _
  · exact .ite _ (State.runsOrBreaks_raise _ (show (11 : Fin 16) ≠ 9 by decide)) (.refl _)

theorem State.runsOrBreaks_exitOccupancy (s : State) (o : Occ) (side : Side) :
    s.RunsOrBreaks (s.exitOccupancy o side) := by
  obtain ⟨x, h⟩ | ⟨dev, h⟩ := s.exitOccupancy_cases o side <;> rw [h]
  · exact (s.runsOrBreaks_eng _).trans (State.runsOrBreaks_countReject _ _ _)
  · exact (s.runsOrBreaks_eng _).trans (State.runsOrBreaks_commit _ _ _ _)

theorem State.runsOrBreaks_takePendingExit (s : State) : s.RunsOrBreaks s.takePendingExit := by
  unfold State.takePendingExit
  split
  · exact .refl s
  · split
    · exact .refl s
    · exact s.runsOrBreaks_exitOccupancy _ _

theorem State.runsOrBreaks_discardPulse (s : State) (reason : Reject) : s.RunsOrBreaks (s.discardPulse reason) := by
  obtain ⟨-, h⟩ | ⟨-, h⟩ | ⟨-, o, y, -, h⟩ := s.discardPulse_cases reason <;> rw [h]
  · exact .refl s
  · exact s.runsOrBreaks_eng _
  · exact (s.runsOrBreaks_eng _).trans (State.runsOrBreaks_countReject _ _ _)

theorem State.runsOrBreaks_takeEntry (s : State) (label : Nat) (side : Side) : s.RunsOrBreaks (s.takeEntry label side) := by
  unfold State.takeEntry
  split
  · exact .ite _ (s.runsOrBreaks_eng _) (.refl s)
  · exact .refl s

theorem State.runsOrBreaks_takeLeave (s : State) (label : Nat) (side : Side) : s.RunsOrBreaks (s.takeLeave label side) := by
  unfold State.takeLeave
  split
  · exact .refl s
  · exact .ite _ (.ite _ (s.runsOrBreaks_eng _) (s.runsOrBreaks_exitOccupancy _ _)) (.refl s)

theorem State.runsOrBreaks_takeCrossing (belongs : Bool) (s : State) (c : Crossing) :
    s.RunsOrBreaks (s.takeCrossing belongs c) := by
  refine .ite _ ?_ (.refl s)
  cases c with
  | enter label side pos => exact s.runsOrBreaks_takeEntry label side
  | leave label side pos => exact s.runsOrBreaks_takeLeave label side

theorem State.runsOrBreaks_stray (s : State) (pos : Option Int) : s.RunsOrBreaks (s.stray pos) :=
  (s.runsOrBreaks_eng _).trans (State.runsOrBreaks_raise _ (show (13 : Fin 16) ≠ 9 by decide))

theorem State.runsOrBreaks_strobeInOccupied (s : State) (o : Occ) (dev pos : Int) (valid : Bool) (reason : Reject)
    (inBand : Bool) : s.RunsOrBreaks (s.strobeInOccupied o dev pos valid reason inBand) := by
  refine .ite _ (s.runsOrBreaks_spoil _) (.ite _ (s.runsOrBreaks_spoil _) ?_)
  cases o.outcome with
  | none => exact s.runsOrBreaks_eng _
  | provisional dev' pos' => exact s.runsOrBreaks_spoil _
  | spoiled x => exact .refl s

theorem State.runsOrBreaks_matchStrobe (s : State) (pos : Option Int) (valid : Bool) (reason : Reject) (inBand : Bool) :
    s.RunsOrBreaks (s.matchStrobe pos valid reason inBand) := by
  unfold State.matchStrobe
  split
  · exact s.runsOrBreaks_stray _
  · split
    · exact s.runsOrBreaks_stray _
    · split
      · exact .refl s
      · exact .ite _ (s.runsOrBreaks_strobeInOccupied _ _ _ _ _ _) (.refl s)

/-! ### HOME, pulses, edges and segments (R117 to R122, R129) -/

theorem State.runsOrBreaks_atHome (s : State) (rawM rawP : Int) : s.RunsOrBreaks (s.atHome rawM rawP) where
  tracks := rfl
  trav := rfl
  ring := .inr rfl
  still _ := ⟨rfl, rfl⟩
  runs running := .inl running

theorem State.runsOrBreaks_offerHome (s : State) (homeValid : Bool) (rawM rawP : Int) :
    s.RunsOrBreaks (s.offerHome homeValid rawM rawP) := by
  by_cases h : s.HomeQualifies (homeValid = true)
  · rw [State.offerHome_of_qualifies h]
    exact (s.runsOrBreaks_atHome rawM rawP).trans (State.runsOrBreaks_raise _ (show (8 : Fin 16) ≠ 9 by decide))
  · rw [State.offerHome_of_not_qualifies h]
    exact .refl s

theorem State.runsOrBreaks_openPulse (s : State) (l : Latched) : s.RunsOrBreaks (s.openPulse l) := by
  obtain h | h | h := s.openPulse_cases l <;> rw [h]
  · exact .refl s
  · exact s.runsOrBreaks_eng _
  · exact (s.runsOrBreaks_eng _).trans (State.runsOrBreaks_discardPulse _ _)

theorem State.runsOrBreaks_closePulse (belongs : Bool) (s : State) (p : OpenPulse) (l : Latched) :
    s.RunsOrBreaks (s.closePulse belongs p l) :=
  (s.runsOrBreaks_eng { s.eng with pulse := none }).trans <|
    .ite _ ((State.runsOrBreaks_matchStrobe _ _ _ _ _).trans (State.runsOrBreaks_takePendingExit _))
      (.ite _ (State.runsOrBreaks_offerHome _ _ _ _) (.refl _))

theorem State.runsOrBreaks_takeEdge (belongs : Bool) (s : State) (e : Edge) : s.RunsOrBreaks (s.takeEdge belongs e) := by
  unfold State.takeEdge
  dsimp only
  split
  · exact .ite _ (s.runsOrBreaks_matchStrobe _ _ _ _) (s.runsOrBreaks_offerHome _ _ _)
  · exact (s.runsOrBreaks_discardPulse _).trans (State.runsOrBreaks_openPulse _ _)
  · split
    · exact .refl s
    · exact s.runsOrBreaks_closePulse belongs _ _

theorem State.runsOrBreaks_takeEvent (belongs : Bool) (s : State) (x : Crossing ⊕ Edge) :
    s.RunsOrBreaks (s.takeEvent belongs x) := by
  cases x with
  | inl c => exact s.runsOrBreaks_takeCrossing belongs c
  | inr e => exact s.runsOrBreaks_takeEdge belongs e

theorem State.runsOrBreaks_takeSegment (belongs : Bool) (s : State) (j : Nat) (p0 p1 : Int) :
    s.RunsOrBreaks (s.takeSegment belongs j p0 p1) := by
  refine (s.runsOrBreaks_eng { s.eng with latches := s.eng.latches.filter fun e => decide (j ≤ e.k) }).trans ?_
  unfold State.takeSegment
  dsimp only
  rw [State.takeInOrder_eq_foldl]
  exact .foldl (State.runsOrBreaks_takeEvent belongs) _ _

theorem State.runsOrBreaks_checkSound (s : State) (j : Nat) : s.RunsOrBreaks (s.checkSound j) := by
  obtain h | h | h := s.checkSound_cases j <;> rw [h]
  · exact .refl s
  · exact s.runsOrBreaks_discardPulse _
  · exact s.runsOrBreaks_discardPulse _

/-! ### The segment that ends at a pass start (R101, R119) -/

/-- Where no occupancy is held, a discarded pulse is closed and nothing more (R118). -/
theorem State.discardPulse_of_vacant {s : State} (vacant : s.eng.occ = none) (reason : Reject) :
    s.discardPulse reason = { s with eng := { s.eng with pulse := none } } := by
  obtain ⟨closed, h⟩ | ⟨-, h⟩ | ⟨-, o, y, held, -⟩ := s.discardPulse_cases reason
  · rw [h, ← closed]
  · rw [h, vacant, Option.map_none, ← vacant]
  · exact absurd (vacant.symm.trans held) (by simp)

/-- The second state is the first but for the open pulse. -/
def State.PulseOnly (s t : State) : Prop := ∃ q, t = { s with eng := { s.eng with pulse := q } }

theorem State.PulseOnly.refl (s : State) : s.PulseOnly s := ⟨s.eng.pulse, rfl⟩

theorem State.PulseOnly.trans {s t u : State} (h : s.PulseOnly t) (h' : t.PulseOnly u) : s.PulseOnly u := by
  obtain ⟨q, rfl⟩ := h
  obtain ⟨q', rfl⟩ := h'
  exact ⟨q', rfl⟩

/-- Neither an occupancy is held nor HOME armed: nothing that a segment of no pass, or a discarded pulse, could act on. -/
def State.Unengaged (s : State) : Prop := s.eng.occ = none ∧ s.eng.home = false

theorem State.PulseOnly.unengaged {s t : State} (h : s.PulseOnly t) (free : s.Unengaged) : t.Unengaged := by
  obtain ⟨q, rfl⟩ := h
  exact free

theorem State.offerHome_of_unarmed {s : State} (unarmed : s.eng.home = false) (homeValid : Bool) (rawM rawP : Int) :
    s.offerHome homeValid rawM rawP = s :=
  State.offerHome_of_not_qualifies (fun qualifies => Bool.false_ne_true (unarmed.symm.trans qualifies.1)) rawM rawP

theorem State.pulseOnly_discardPulse {s : State} (free : s.Unengaged) (reason : Reject) :
    s.PulseOnly (s.discardPulse reason) := ⟨none, State.discardPulse_of_vacant free.1 reason⟩

theorem State.pulseOnly_openPulse {s : State} (free : s.Unengaged) (l : Latched) : s.PulseOnly (s.openPulse l) := by
  have opened : s.PulseOnly { s with eng := { s.eng with pulse := some ⟨l, !s.running⟩ } } := ⟨_, rfl⟩
  obtain h | h | h := s.openPulse_cases l <;> rw [h]
  · exact .refl s
  · exact opened
  · exact opened.trans (State.pulseOnly_discardPulse (opened.unengaged free) _)

/-- An edge of a segment of no pass opens or closes a pulse at most, while HOME is not armed and no occupancy is held. -/
theorem State.pulseOnly_takeEdge {s : State} (free : s.Unengaged) (e : Edge) : s.PulseOnly (s.takeEdge false e) := by
  have unarmed := State.offerHome_of_unarmed free.2
  unfold State.takeEdge
  dsimp only
  split
  · rw [Bool.false_and, if_neg Bool.false_ne_true, unarmed]
    exact .refl s
  · have discarded := State.pulseOnly_discardPulse free .interrupted
    exact discarded.trans (State.pulseOnly_openPulse (discarded.unengaged free) _)
  · split
    · exact .refl s
    · refine ⟨none, ?_⟩
      unfold State.closePulse
      dsimp only
      rw [Bool.false_and, if_neg Bool.false_ne_true, State.offerHome_of_unarmed (by exact free.2), ite_self]

theorem State.pulseOnly_takeEvent {s : State} (free : s.Unengaged) (x : Crossing ⊕ Edge) :
    s.PulseOnly (s.takeEvent false x) := by
  cases x with
  | inl c =>
    rw [State.takeEvent, State.takeCrossing_of_not_running (.inl rfl)]
    exact .refl s
  | inr e => exact State.pulseOnly_takeEdge free e

theorem State.pulseOnly_takeEvents {s : State} (free : s.Unengaged) (xs : List (Crossing ⊕ Edge)) :
    s.PulseOnly (xs.foldl (State.takeEvent false) s) := by
  induction xs generalizing s with
  | nil => exact .refl s
  | cons x xs ih =>
    have taken := State.pulseOnly_takeEvent free x
    exact taken.trans (ih (taken.unengaged free))

/-- A segment of no pass, taken with no occupancy held and HOME not armed (R119). -/
theorem State.takeSegment_unengaged {s : State} (free : s.Unengaged) (j : Nat) (p0 p1 : Int) :
    (s.takeSegment false j p0 p1).trav = s.trav ∧ (s.takeSegment false j p0 p1).Unengaged := by
  unfold State.takeSegment
  dsimp only
  rw [State.takeInOrder_eq_foldl]
  set u : State := { s with eng := { s.eng with latches := s.eng.latches.filter fun e => decide (j ≤ e.k) } }
  obtain ⟨q, taken⟩ := State.pulseOnly_takeEvents (s := u) free (meetingOrder (decide (p0 < p1))
    (sortEdges (s.eng.latches.filter fun e => decide (e.k < j))) (s.table.crossings p0 p1))
  rw [taken]
  exact ⟨rfl, free⟩

theorem State.checkSound_unengaged {s : State} (free : s.Unengaged) (j : Nat) :
    (s.checkSound j).trav = s.trav ∧ (s.checkSound j).eng.occ = none := by
  obtain h | h | h := s.checkSound_cases j <;> rw [h]
  · exact ⟨rfl, free.1⟩
  · rw [State.discardPulse_of_vacant free.1]
    exact ⟨rfl, free.1⟩
  · rw [State.discardPulse_of_vacant free.1]
    exact ⟨rfl, free.1⟩

end Sys2Proof.Machine

namespace Sys2Proof.Machine

/-! ### A pass that ends (R104, R105) -/

/-- In `t` the pass of a controller `tr` has ended with a kind: its occupancy and its pulse are closed, PASS_END names it, and
the controller keeps its number, its direction and its positions, but that the ring may be emptied (R105). -/
structure State.Ended (tr : Traverse) (kind : EndKind) (t : State) : Prop where
  stopped : t.trav.ctl ≠ .running
  vacated : t.eng.occ = none
  closed : t.eng.pulse = none
  raised : ∃ n, (t.source 9).raised = some ⟨n, .passEnd tr.passNo (tr.dir.getD .fwd) kind⟩
  passNo : t.trav.passNo = tr.passNo
  dir : t.trav.dir = tr.dir
  latest : t.trav.latest = tr.latest
  ring : t.trav.ring = tr.ring ∨ t.trav.ring = []

theorem State.endPass_ended {s : State} (running : s.trav.ctl = .running) (kind : EndKind) (inStop : Bool) :
    (s.endPass kind inStop).Ended s.trav kind := by
  have trav := State.endPass_trav_eq running kind inStop
  have eng := State.endPass_eng running kind inStop
  refine ⟨s.endPass_not_running kind inStop, by rw [eng], by rw [eng], ?_, by rw [trav]; rfl, by rw [trav]; rfl,
    by rw [trav]; rfl, s.endPass_ring kind inStop⟩
  rw [State.endPass_source_passEnd running, Source.raise_raised]
  exact ⟨_, rfl⟩

/-! ### The position formed and the width check (R98, R113, R118) -/

/-- The part when P(j) has entered the tracks and the velocity ring, its latches completed (R98, R113). -/
def State.noted (s : State) : State :=
  { s.completeLatches with tracks := { s.tracks with alignedNext := s.tracks.alignedNext + 1 } }.notePosition
    s.tracks.alignedNext (s.trackPosition s.tracks.alignedNext)

/-- The part after the width check of the pulse that is open when P(j) is formed (R118). -/
def State.widthChecked (s : State) : State := s.noted.checkWidth (s.trackPosition s.tracks.alignedNext)

/-- The part after the controller's tests at an aligned sample (R98 to R103). -/
def State.tested (s : State) : State :=
  s.widthChecked.testUnlessEnded s.trav.ctl s.tracks.alignedNext (s.trackPosition s.tracks.alignedNext)

/-- A discarded pulse closes the pulse, may change the occupancy, and leaves the rest of the engine. -/
theorem State.discardPulse_eng (s : State) (x : Reject) :
    (s.discardPulse x).eng = { s.eng with pulse := none, occ := (s.discardPulse x).eng.occ } := by
  obtain ⟨closed, h⟩ | ⟨-, h⟩ | ⟨-, o, y, -, h⟩ := s.discardPulse_cases x <;> rw [h]
  · rw [← closed]
  · obtain h | h := ({ s with eng := { s.eng with pulse := none, occ := none } }.tally o.label y).raise_eng
      (.reject o.label y) <;> rw [State.countReject, h] <;> rfl

/-- A discarded pulse lets the pass run on, or breaks it by the REJECT that it counts (R118, R127, R150). -/
theorem State.discardPulse_pass (s : State) (x : Reject) :
    (s.discardPulse x).trav = s.trav ∨
      ((s.eng.pulse ≠ none ∧ (s.source 12).action ≠ .none) ∧ s.trav.ctl = .running ∧
        (s.discardPulse x).Ended s.trav .broken) := by
  obtain ⟨-, h⟩ | ⟨-, h⟩ | ⟨opened, o, y, -, h⟩ := s.discardPulse_cases x
  · exact .inl (by rw [h])
  · exact .inl (by rw [h])
  · rw [h]
    set v := { s with eng := { s.eng with pulse := none, occ := none } }.tally o.label y with hv
    obtain e | ⟨e, action, running⟩ := v.raise_cases (.reject o.label y)
    · exact .inl (by rw [State.countReject, ← hv, e]; rfl)
    · refine .inr ⟨⟨opened, action⟩, running, ?_⟩
      rw [State.countReject, ← hv, e]
      exact State.endPass_ended (s := v.note (.reject o.label y)) running .broken false

section
variable (s : State)

/-- The width check at an aligned sample changes nothing or discards the pulse (R118). -/
theorem State.widthChecked_cases : s.widthChecked = s.noted ∨ s.widthChecked = s.noted.discardPulse .width :=
  State.checkWidth_cases _ _

theorem State.widthChecked_quiet : s.noted.Quiet s.widthChecked := State.quiet_checkWidth _ _

theorem State.widthChecked_tracks : s.widthChecked.tracks = { s.tracks with alignedNext := s.tracks.alignedNext + 1 } := by
  obtain h | h := s.widthChecked_cases <;> rw [h]
  · rfl
  · exact (State.runsOrBreaks_discardPulse _ _).tracks

theorem State.widthChecked_latches : s.widthChecked.eng.latches = s.eng.latches.map s.completeEdge := by
  obtain h | h := s.widthChecked_cases <;> rw [h]
  · rfl
  · rw [State.discardPulse_eng]
    rfl

theorem State.widthChecked_pass :
    s.widthChecked.trav = s.noted.trav ∨
      ((s.eng.pulse ≠ none ∧ (s.source 12).action ≠ .none) ∧ s.trav.ctl = .running ∧
        s.widthChecked.Ended s.noted.trav .broken) := by
  obtain h | h := s.widthChecked_cases <;> rw [h]
  · exact .inl rfl
  · exact s.noted.discardPulse_pass .width

end

theorem State.widthChecked_of_none {s : State} (closed : s.eng.pulse = none) : s.widthChecked = s.noted :=
  State.checkWidth_of_none (s := s.noted) closed _

theorem State.widthChecked_vacant {s : State} (vacant : s.eng.occ = none) : s.widthChecked.eng.occ = none := by
  obtain h | h := s.widthChecked_cases <;> rw [h]
  · exact vacant
  · rw [State.discardPulse_of_vacant (by exact vacant)]
    exact vacant

/-! ### The controller's tests (R98 to R103) -/

/-- The four conditions of a pass start at an aligned sample (R100). -/
def State.Starts (s : State) (j : Nat) (p : Int) : Prop :=
  (allEntries HistEntry.sound (s.entriesAt j) = true ∧ s.channelsReady = true) ∧ (s.trav.sLo ≤ p ∧ p ≤ s.trav.sHi) ∧
    s.trav.ring.length = 17 ∧ 8 * s.trav.vStart ≤ 5 * |s.trav.ring.getLastD 0 - s.trav.ring.headD 0|

/-- The speed is against the pass direction and reaches v_rev (R102). -/
def Traverse.Turns (t : Traverse) (d : Dir) : Prop :=
  t.ring.length = 17 ∧ t.ring.getLastD 0 - t.ring.headD 0 ≠ 0 ∧ dirOf (t.ring.getLastD 0 - t.ring.headD 0) ≠ d ∧
    8 * t.vRev ≤ 5 * |t.ring.getLastD 0 - t.ring.headD 0|

theorem reaches_iff {dp threshold : Int} : reaches dp threshold = true ↔ 8 * threshold ≤ 5 * |dp| := by
  rw [reaches, decide_eq_true_iff, mag_eq_abs]

theorem Traverse.inSpan_iff {t : Traverse} {p : Int} : t.inSpan p = true ↔ t.sLo ≤ p ∧ p ≤ t.sHi := by
  simp [Traverse.inSpan]

theorem Traverse.dp16_of_full {t : Traverse} (full : t.ring.length = 17) :
    t.dp16 = some (t.ring.getLastD 0 - t.ring.headD 0) := if_pos full

theorem Traverse.dp16_of_not_full {t : Traverse} (short : t.ring.length ≠ 17) : t.dp16 = none := if_neg short

theorem State.testStart_of_starts {s : State} {j : Nat} {p : Int} (starts : s.Starts j p) :
    s.testStart j p = s.startPass (s.trav.ring.getLastD 0 - s.trav.ring.headD 0) := by
  obtain ⟨⟨entries, ready⟩, span, full, fast⟩ := starts
  simp only [State.testStart, Traverse.dp16_of_full full, entries, ready, Traverse.inSpan_iff.mpr span,
    reaches_iff.mpr fast, Bool.and_self, if_true]

theorem State.testStart_of_not_starts {s : State} {j : Nat} {p : Int} (waits : ¬s.Starts j p) : s.testStart j p = s := by
  unfold State.testStart
  split
  · rfl
  · next dp held =>
    have full : s.trav.ring.length = 17 := by
      by_contra short
      simp [Traverse.dp16_of_not_full short] at held
    obtain rfl : s.trav.ring.getLastD 0 - s.trav.ring.headD 0 = dp :=
      Option.some.inj ((Traverse.dp16_of_full full).symm.trans held)
    refine if_neg fun met => waits ?_
    simp only [Bool.and_eq_true, Traverse.inSpan_iff, reaches_iff] at met
    obtain ⟨⟨sound, span⟩, fast⟩ := met
    exact ⟨sound, span, full, fast⟩

theorem Traverse.turned_iff {t : Traverse} {d : Dir} (dir : t.dir = some d) : t.turned = true ↔ t.Turns d := by
  unfold Traverse.Turns
  by_cases full : t.ring.length = 17
  · simp [Traverse.turned, Traverse.dp16_of_full full, dir, full, reaches_iff, and_assoc]
  · simp [Traverse.turned, Traverse.dp16_of_not_full full, full]

/-- SPAN before TURN, or the pass runs on (R102, R103). -/
theorem State.testEnd_eq {s : State} {d : Dir} (dir : s.trav.dir = some d) (p : Int) :
    (¬(s.trav.sLo ≤ p ∧ p ≤ s.trav.sHi) → s.testEnd p = s.endPass .span false) ∧
    (s.trav.sLo ≤ p ∧ p ≤ s.trav.sHi → s.trav.Turns d → s.testEnd p = s.endPass .turn false) ∧
    (s.trav.sLo ≤ p ∧ p ≤ s.trav.sHi → ¬s.trav.Turns d → s.testEnd p = s) := by
  have turned := Traverse.turned_iff dir
  refine ⟨fun outside => if_pos (Bool.eq_false_iff.mpr (mt Traverse.inSpan_iff.mp outside)), fun inside turns => ?_,
    fun inside straight => ?_⟩
  · simp only [State.testEnd, Traverse.inSpan_iff.mpr inside, turned.mpr turns, Bool.true_eq_false, if_true, if_false]
  · simp only [State.testEnd, Traverse.inSpan_iff.mpr inside, mt turned.mp straight, Bool.true_eq_false, Bool.false_eq_true,
      if_false]

/-! ### The part after the tests, by the state of the controller -/

section
variable {s : State}

theorem State.tested_of_idle (idle : s.trav.ctl = .idle) : s.tested = s.widthChecked := by
  unfold State.tested State.testUnlessEnded
  split
  · next still => rw [State.testTraverse, still, idle]
  · rfl

theorem State.widthChecked_of_not_running (stopped : s.trav.ctl ≠ .running) : s.widthChecked.trav = s.noted.trav :=
  s.widthChecked_pass.resolve_right fun ⟨_, running, _⟩ => stopped running

theorem State.tested_of_waiting (waiting : s.trav.ctl = .waiting) :
    s.tested = s.widthChecked.testStart s.tracks.alignedNext (s.trackPosition s.tracks.alignedNext) := by
  have ctl : s.widthChecked.trav.ctl = .waiting := by
    rw [State.widthChecked_of_not_running (by simp [waiting])]
    exact waiting
  rw [State.tested, State.testUnlessEnded, waiting, if_pos ctl, State.testTraverse, ctl]

/-- A running pass meets the tests, unless the width of its pulse has broken it (R100, R118). -/
theorem State.tested_of_running (running : s.trav.ctl = .running) :
    (s.widthChecked.trav = s.noted.trav ∧
        s.tested = s.widthChecked.testEnd (s.trackPosition s.tracks.alignedNext)) ∨
      ((s.eng.pulse ≠ none ∧ (s.source 12).action ≠ .none) ∧ s.tested = s.widthChecked ∧
        s.tested.Ended s.noted.trav .broken) := by
  obtain ran | ⟨breaks, -, ended⟩ := s.widthChecked_pass
  · have ctl : s.widthChecked.trav.ctl = .running := by
      rw [ran]
      exact running
    exact .inl ⟨ran, by rw [State.tested, State.testUnlessEnded, running, if_pos ctl, State.testTraverse, ctl]⟩
  · have same : s.tested = s.widthChecked := by
      rw [State.tested, State.testUnlessEnded, running, if_neg ended.stopped]
    exact .inr ⟨breaks, same, same ▸ ended⟩

end

/-! ### The entries of an aligned sample and the channels of the position (R98, R100) -/

/-- MEASURE, and PARTNER when assigned. -/
def State.positionChannels (s : State) : List Channel :=
  s.chan 0 :: match s.partner with
    | none => []
    | some f => [s.chan f]

theorem State.entriesAt_eq (s : State) (j : Nat) : s.entriesAt j = s.positionChannels.map (·.entry j) := by
  unfold State.entriesAt State.positionChannels
  cases s.partner <;> rfl

theorem allEntries_map_iff {p : HistEntry → Bool} {cs : List Channel} {j : Nat} :
    allEntries p (cs.map (·.entry j)) = true ↔ ∀ c ∈ cs, ∃ e, c.entry j = some e ∧ p e = true := by
  rw [allEntries_iff, List.forall_mem_map]

theorem State.channelsReady_iff {s : State} :
    s.channelsReady = true ↔ ∀ c ∈ s.positionChannels, c.state = .tracking ∧ c.referenced = true := by
  unfold State.positionChannels
  rw [List.forall_mem_cons, State.channelsReady, Bool.and_eq_true, State.partnerMeets_iff, Bool.and_eq_true,
    Channel.tracking_iff]
  refine and_congr_right fun _ => ?_
  cases s.partner <;> simp [Channel.tracking_iff]

theorem State.positionChannels_congr {s t : State} (chans : t.chans = s.chans) :
    t.positionChannels = s.positionChannels := by
  unfold State.positionChannels State.partner State.holder
  simp only [State.chan_congr chans]

/-- The conditions of a pass start depend on the channels and the controller alone. -/
theorem State.starts_iff {s t : State} (chans : t.chans = s.chans) {j : Nat} {p : Int} :
    t.Starts j p ↔
      (∀ c ∈ s.positionChannels, (∃ e, c.entry j = some e ∧ e.state = .tracking ∧ e.referenced = true) ∧
        c.state = .tracking ∧ c.referenced = true) ∧
      (t.trav.sLo ≤ p ∧ p ≤ t.trav.sHi) ∧ t.trav.ring.length = 17 ∧
      8 * t.trav.vStart ≤ 5 * |t.trav.ring.getLastD 0 - t.trav.ring.headD 0| := by
  unfold State.Starts
  rw [State.entriesAt_eq, allEntries_map_iff, State.channelsReady_iff, State.positionChannels_congr chans, ← forall₂_and]
  simp only [HistEntry.sound_iff]

/-! ### An aligned sample (R113) -/

section
variable {s : State}

theorem State.noted_ring (s : State) :
    let tracked := ∀ c ∈ s.positionChannels, ∃ e, c.entry s.tracks.alignedNext = some e ∧ e.state = .tracking
    (tracked → s.noted.trav.ring =
      (if s.trav.ring.length < 17 then s.trav.ring else s.trav.ring.drop 1) ++ [s.trackPosition s.tracks.alignedNext]) ∧
    (¬tracked → s.noted.trav.ring = []) := by
  intro tracked
  have entries : allEntries HistEntry.tracks (s.entriesAt s.tracks.alignedNext) = true ↔ tracked := by
    rw [State.entriesAt_eq, allEntries_map_iff]
    simp only [HistEntry.tracks_iff]
    rfl
  refine ⟨fun met => (if_pos (entries.mpr met)).trans ?_, fun unmet => if_neg (mt entries.mp unmet)⟩
  rw [pushPosition, Config.positionRingDepth, apply_ite (· ++ [_])]
  rfl

theorem State.tested_quiet (s : State) : s.noted.Quiet s.tested :=
  s.widthChecked_quiet.trans (State.quiet_testUnlessEnded _ _ _ _)

theorem State.tested_chans (s : State) : s.tested.chans = s.chans := s.tested_quiet.chans

/-- The pass start of a WAITING controller (R100, R101). -/
theorem State.tested_starts (waiting : s.trav.ctl = .waiting)
    (starts : s.widthChecked.Starts s.tracks.alignedNext (s.trackPosition s.tracks.alignedNext)) :
    s.tested = s.widthChecked.startPass (s.noted.trav.ring.getLastD 0 - s.noted.trav.ring.headD 0) := by
  rw [State.tested_of_waiting waiting, State.testStart_of_starts starts,
    State.widthChecked_of_not_running (by simp [waiting])]

theorem State.tested_waits (waiting : s.trav.ctl = .waiting)
    (waits : ¬s.widthChecked.Starts s.tracks.alignedNext (s.trackPosition s.tracks.alignedNext)) :
    s.tested = s.widthChecked := by
  rw [State.tested_of_waiting waiting, State.testStart_of_not_starts waits]

/-- The tests of a RUNNING controller: SPAN, or else TURN, or the pass runs on; unless a REJECT broke it first (R102, R103). -/
theorem State.tested_running {d : Dir} (running : s.trav.ctl = .running) (dir : s.trav.dir = some d) :
    let p := s.trackPosition s.tracks.alignedNext
    let inSpan := s.trav.sLo ≤ p ∧ p ≤ s.trav.sHi
    ((¬inSpan → s.tested.Ended s.noted.trav .span) ∧
        (inSpan → s.noted.trav.Turns d → s.tested.Ended s.noted.trav .turn) ∧
        (inSpan → ¬s.noted.trav.Turns d → s.tested = s.widthChecked ∧ s.widthChecked.trav = s.noted.trav)) ∨
      ((s.eng.pulse ≠ none ∧ (s.source 12).action ≠ .none) ∧ s.tested = s.widthChecked ∧
        s.tested.Ended s.noted.trav .broken) := by
  intro p inSpan
  refine (State.tested_of_running running).imp (fun ⟨ran, tests⟩ => ?_) id
  have ends : ∀ kind, (s.widthChecked.endPass kind false).Ended s.noted.trav kind := fun kind =>
    ran ▸ State.endPass_ended (by rw [ran]; exact running) kind false
  obtain ⟨span, turn, on⟩ := State.testEnd_eq (s := s.widthChecked) (d := d) (by rw [ran]; exact dir) p
  rw [ran] at span turn on
  rw [tests]
  exact ⟨fun outside => (span outside).symm ▸ ends .span, fun inside turns => (turn inside turns).symm ▸ ends .turn,
    fun inside straight => ⟨on inside straight, ran⟩⟩

/-- The tests change nothing, start a pass or end one (R100 to R103). -/
theorem State.tested_cases (s : State) :
    s.tested = s.widthChecked ∨ (s.trav.ctl = .waiting ∧ ∃ dp, s.tested = s.widthChecked.startPass dp) ∨
      (s.widthChecked.trav.ctl = .running ∧ ∃ kind, s.tested = s.widthChecked.endPass kind false) := by
  unfold State.tested State.testUnlessEnded
  split
  · next same =>
    unfold State.testTraverse
    split
    · exact .inl rfl
    · next waiting =>
      by_cases starts : s.widthChecked.Starts s.tracks.alignedNext (s.trackPosition s.tracks.alignedNext)
      · exact .inr (.inl ⟨same.symm.trans waiting, _, State.testStart_of_starts starts⟩)
      · exact .inl (State.testStart_of_not_starts starts)
    · next running =>
      unfold State.testEnd
      split
      · exact .inr (.inr ⟨running, _, rfl⟩)
      · split
        · exact .inr (.inr ⟨running, _, rfl⟩)
        · exact .inl rfl
  · exact .inl rfl

/-- What P(j) leaves in the tracks and the latch list, whatever the tests find (R113, R115). -/
theorem State.tested_frame (s : State) :
    s.tested.tracks = { s.tracks with alignedNext := s.tracks.alignedNext + 1 } ∧
      s.tested.eng.latches = s.eng.latches.map s.completeEdge := by
  obtain h | ⟨-, dp, h⟩ | ⟨running, kind, h⟩ := s.tested_cases <;> rw [h]
  · exact ⟨s.widthChecked_tracks, s.widthChecked_latches⟩
  · exact ⟨s.widthChecked_tracks, s.widthChecked_latches⟩
  · rw [State.endPass_tracks, State.endPass_eng running]
    exact ⟨s.widthChecked_tracks, s.widthChecked_latches⟩

/-- P(j) stays the latest position, and the velocity ring is left but where a pass ends (R98, R105). -/
theorem State.tested_positions (s : State) :
    s.tested.trav.latest = some (s.trackPosition s.tracks.alignedNext) ∧
      (s.tested.trav.ring = s.noted.trav.ring ∨
        (s.tested.trav.ring = [] ∧ s.trav.ctl = .running ∧ s.tested.trav.ctl ≠ .running)) := by
  have ended : ∀ (t : State) kind, s.trav.ctl = .running → t.Ended s.noted.trav kind →
      t.trav.latest = some (s.trackPosition s.tracks.alignedNext) ∧
        (t.trav.ring = s.noted.trav.ring ∨ (t.trav.ring = [] ∧ s.trav.ctl = .running ∧ t.trav.ctl ≠ .running)) :=
    fun t kind running h => ⟨h.latest, h.ring.imp id fun empty => ⟨empty, running, h.stopped⟩⟩
  obtain ran | ⟨-, running, broke⟩ := s.widthChecked_pass
  · obtain h | ⟨-, dp, h⟩ | ⟨running, kind, h⟩ := s.tested_cases
    · rw [h, ran]
      exact ⟨rfl, .inl rfl⟩
    · rw [h, State.startPass, ran]
      exact ⟨rfl, .inl rfl⟩
    · exact h ▸ ended _ kind (by rw [ran] at running; exact running) (ran ▸ State.endPass_ended running kind false)
  · obtain h | ⟨waiting, -⟩ | ⟨ran, -⟩ := s.tested_cases
    · exact h ▸ ended _ .broken running broke
    · exact absurd (running.symm.trans waiting) (by decide)
    · exact absurd ran broke.stopped

/-- The segment that ends at the aligned sample, and the check of the pulse still open (R113, R118). -/
theorem State.reachAligned_eq (s : State) :
    s.reachAligned = (if (s.chan 0).first = some s.tracks.alignedNext then s.tested
      else s.tested.takeSegment (s.running && s.tested.running) s.tracks.alignedNext
        (s.trav.latest.getD (s.trackPosition s.tracks.alignedNext))
        (s.trackPosition s.tracks.alignedNext)).checkSound s.tracks.alignedNext := by
  rw [← State.chan_congr s.tested_chans 0]
  rfl

theorem State.reachAligned_runsOrBreaks (s : State) : s.tested.RunsOrBreaks s.reachAligned := by
  rw [State.reachAligned_eq]
  exact (State.RunsOrBreaks.ite _ (.refl _) (State.runsOrBreaks_takeSegment _ _ _ _ _)).trans
    (State.runsOrBreaks_checkSound _ _)

/-- The sample at which a pass starts leaves it running with no occupancy, where none was held and HOME is not armed (R101). -/
theorem State.reachAligned_of_start {dp : Int} (waiting : s.trav.ctl = .waiting)
    (starts : s.tested = s.widthChecked.startPass dp) (unarmed : s.eng.home = false) (vacant : s.eng.occ = none) :
    s.reachAligned.trav.ctl = .running ∧ s.reachAligned.eng.occ = none := by
  have free : s.tested.Unengaged := by
    rw [starts]
    exact ⟨State.widthChecked_vacant vacant, s.widthChecked_quiet.home.trans unarmed⟩
  have started : s.tested.trav.ctl = .running := by rw [starts]; rfl
  have outside : (s.running && s.tested.running) = false := by simp [State.running, waiting]
  rw [State.reachAligned_eq, outside]
  split
  · obtain ⟨trav, occ⟩ := State.checkSound_unengaged free s.tracks.alignedNext
    exact ⟨by rw [trav, started], occ⟩
  · obtain ⟨taken, free'⟩ := State.takeSegment_unengaged free s.tracks.alignedNext
      (s.trav.latest.getD (s.trackPosition s.tracks.alignedNext)) (s.trackPosition s.tracks.alignedNext)
    obtain ⟨trav, occ⟩ := State.checkSound_unengaged free' s.tracks.alignedNext
    exact ⟨by rw [trav, taken, started], occ⟩

end

theorem State.alignedDue_iff {s : State} :
    s.alignedDue = true ↔
      (s.chan 0).state ≠ .off ∧ (s.chan 0).first ≠ none ∧ s.tracks.alignedNext < s.tracks.alignedLimit := by
  unfold State.alignedDue
  rw [Bool.and_eq_true, Bool.and_eq_true, decide_eq_true_iff, decide_eq_true_iff, Option.isSome_iff_ne_none, and_assoc]
  rfl

theorem exec_alignedSample {s : State} (active : s.active = true) :
    exec .alignedSample s = .next (if s.alignedDue then s.reachAligned else s) := by
  show Host.Outcome.next (if s.active && s.alignedDue then s.reachAligned else s) = _
  rw [active, Bool.true_and]

/-- Settles O45: the position formed and tested by `State.tested`, the segment and the last check by `State.RunsOrBreaks`. -/
theorem alignedSampleTestsThePass : Obligations.AlignedSampleTestsThePass := by
  intro s rstn link due j p channels tracked referenced
  have run := exec_alignedSample (State.active_iff.mpr ⟨rstn, link⟩)
  refine ⟨fun early => run.trans (congrArg _ (if_neg (mt State.alignedDue_iff.mp early))), fun ready => ?_⟩
  obtain ⟨noted, emptied⟩ := s.noted_ring
  obtain ⟨tracks, latches⟩ := s.tested_frame
  obtain ⟨latest, ring⟩ := s.tested_positions
  have after := s.reachAligned_runsOrBreaks
  have kept : s.reachAligned.trav.latest = s.tested.trav.latest ∧ s.reachAligned.trav.passNo = s.tested.trav.passNo ∧
      s.reachAligned.trav.dir = s.tested.trav.dir := by
    rw [after.trav]
    exact ⟨rfl, rfl, rfl⟩
  obtain ⟨latest', passNo', dir'⟩ := kept
  refine ⟨s.reachAligned, s.tested, s.noted.trav.ring,
    run.trans (congrArg _ (if_pos (State.alignedDue_iff.mpr ready))), s.reachAligned_eq, noted, emptied, ?_⟩
  intro dp forward inSpan starts rejectBreaks
  refine ⟨⟨tracks, latest, ring, s.tested_chans, latches⟩, fun closed stopped => ?_, fun idle => ?_, fun waiting => ?_,
    fun d running dir => ?_, ⟨after.tracks, latest'.trans latest, after.ring, passNo', dir'⟩,
    fun stopped => (after.still stopped).1, fun d running dir => ?_⟩
  · have closed' := State.widthChecked_of_none closed
    obtain h | ⟨-, _, h⟩ | ⟨running, -⟩ := s.tested_cases
    · rw [h, closed']
      exact ⟨rfl, rfl, rfl⟩
    · rw [h, closed']
      exact ⟨rfl, rfl, rfl⟩
    · rw [closed'] at running
      exact absurd running stopped
  · rw [State.tested_of_idle idle, State.widthChecked_of_not_running (by simp [idle])]
    exact ⟨idle, rfl⟩
  · have trav : s.widthChecked.trav = s.noted.trav := State.widthChecked_of_not_running (by simp [waiting])
    have meets : s.widthChecked.Starts j p ↔ starts := by
      rw [State.starts_iff s.widthChecked_quiet.chans, trav]
      rfl
    refine ⟨fun met => ?_, fun unmet => ?_⟩
    · have started := State.tested_starts waiting (meets.mpr met)
      have begun := State.reachAligned_of_start waiting started
      rw [started, State.startPass, trav]
      exact ⟨rfl, rfl, rfl, rfl, begun⟩
    · rw [State.tested_waits waiting (mt meets.mp unmet), trav]
      exact ⟨waiting, rfl, rfl⟩
  · intro turns ended
    have ends : ∀ kind, s.tested.Ended s.noted.trav kind → ended kind ∧ s.tested.trav.passNo = s.trav.passNo ∧
        s.tested.trav.dir = some d := fun kind h => by
      obtain ⟨n, raised⟩ := h.raised
      rw [show s.noted.trav.dir = some d from dir] at raised
      exact ⟨⟨h.stopped, h.vacated, h.closed, n, raised⟩, h.passNo, h.dir.trans dir⟩
    obtain ⟨span, turn, on⟩ | ⟨breaks, -, broke⟩ := State.tested_running running dir
    · have spans : ¬inSpan → ended .span := fun outside => (ends .span (span outside)).1
      have turned : inSpan → turns → ended .turn := fun inside turning => (ends .turn (turn inside turning)).1
      have runs : inSpan → ¬turns → s.tested.trav = s.noted.trav := fun inside straight => by
        obtain ⟨same, trav⟩ := on inside straight
        rw [same, trav]
      have ran : inSpan → ¬turns → s.tested.trav.ctl = .running := fun inside straight => by
        rw [runs inside straight]
        exact running
      refine ⟨fun _ => ⟨spans, turned, ran⟩, ⟨fun outside => .inl (spans outside),
        fun inside turning => .inl (turned inside turning), fun inside straight => .inl (ran inside straight)⟩, ?_⟩
      by_cases inside : inSpan
      · by_cases turning : turns
        · exact (ends .turn (turn inside turning)).2
        · rw [runs inside turning]
          exact ⟨rfl, dir⟩
      · exact (ends .span (span inside)).2
    · obtain ⟨broken, pass⟩ := ends .broken broke
      exact ⟨fun spares => absurd breaks spares,
        ⟨fun _ => .inr broken, fun _ _ => .inr broken, fun _ _ => .inr broken⟩, pass⟩
  · have ran := after.runs running
    rwa [dir] at ran

end Sys2Proof.Machine

namespace Sys2Proof.Machine

/-! ### A commit into a record (R126, R133, R134) -/

/-- The first deviation of an accumulator is its minimum and its maximum (R133, step 4). -/
theorem Acc.add_of_none {a : Acc} (first : a.ext = none) (x : Int) :
    a.add x = ⟨a.n + 1, a.sum + x, a.sumSq + x ^ 2, some ⟨x, x⟩⟩ := by
  simp [Acc.add, first, pow_two]

theorem Acc.add_of_some {a : Acc} {m : MinMax} (held : a.ext = some m) (x : Int) :
    a.add x = ⟨a.n + 1, a.sum + x, a.sumSq + x ^ 2, some ⟨min m.min x, max m.max x⟩⟩ := by
  rw [min_comm m.min, min_def_lt, max_def_lt, pow_two]
  simp [Acc.add, held]

/-- A record with a capture added to it, not yet tested for COMPLETE. -/
def LineRec.captured (d : Dir) (x : Int) (pass : Nat) (r : LineRec) : LineRec :=
  { r.setAcc d ((r.acc d).add x) with last := some ⟨x, pass, d⟩, misses := 0 }

theorem LineRec.captured_acc (r : LineRec) (d : Dir) (x : Int) (pass : Nat) :
    (r.captured d x pass).acc d = (r.acc d).add x := by
  cases d <;> rfl

theorem LineRec.captured_acc_ne (r : LineRec) (x : Int) (pass : Nat) :
    ∀ {d e : Dir}, e ≠ d → (r.captured d x pass).acc e = r.acc e
  | .fwd, .bwd, _ => rfl
  | .bwd, .fwd, _ => rfl
  | .fwd, .fwd, other => absurd rfl other
  | .bwd, .bwd, other => absurd rfl other

theorem LineRec.captured_rest (r : LineRec) (d : Dir) (x : Int) (pass : Nat) :
    (r.captured d x pass).rejects = r.rejects ∧ (r.captured d x pass).state = r.state ∧
      (r.captured d x pass).quotaF = r.quotaF ∧ (r.captured d x pass).quotaB = r.quotaB := by
  cases d <;> exact ⟨rfl, rfl, rfl, rfl⟩

theorem LineRec.commit_of_full {r : LineRec} {d : Dir} (full : 65535 ≤ (r.acc d).n) (x : Int) (pass : Nat) :
    r.commit d x pass = r := if_pos full

/-- A commit with room adds the capture, and places an ARMED record in its settled state. -/
theorem LineRec.commit_of_room {r : LineRec} {d : Dir} (room : (r.acc d).n < 65535) (x : Int) (pass : Nat) :
    r.commit d x pass = { r.captured d x pass with
      state := if r.state = .armed then (r.captured d x pass).settledState else r.state } := by
  obtain ⟨-, state, -, -⟩ := r.captured_rest d x pass
  have commit : r.commit d x pass =
      if (r.captured d x pass).state = .armed then (r.captured d x pass).settled else r.captured d x pass :=
    if_neg (not_le.mpr room)
  rw [commit, state]
  split
  · rfl
  · rw [← state]

theorem LineRec.settledState_eq_complete {r : LineRec} : r.settledState = .complete ↔ r.finished = true := by
  simp [LineRec.settledState]

theorem LineRec.settledState_cases (r : LineRec) : r.settledState = .complete ∨ r.settledState = .armed := by
  unfold LineRec.settledState
  split
  · exact .inl rfl
  · exact .inr rfl

/-- Settles O40: with room the commit is the record with the capture, and only its state hangs on the quotas. -/
theorem commitAddsTheDeviation : Obligations.CommitAddsTheDeviation := by
  unfold Obligations.CommitAddsTheDeviation
  intro r d x pass r' other
  refine ⟨fun full => LineRec.commit_of_full full.ge x pass, fun room => ?_⟩
  have commit : r' = _ := LineRec.commit_of_room room x pass
  have acc : r'.acc = (r.captured d x pass).acc := by
    rw [commit]
    funext e
    cases e <;> rfl
  have state : r'.state = if r.state = .armed then (r.captured d x pass).settledState else r.state := by rw [commit]
  have rest : r'.last = some ⟨x, pass, d⟩ ∧ r'.misses = 0 ∧ r'.rejects = (r.captured d x pass).rejects := by
    rw [commit]
    exact ⟨rfl, rfl, rfl⟩
  obtain ⟨last, misses, rejects⟩ := rest
  obtain ⟨rejects', -, quotaF, quotaB⟩ := r.captured_rest d x pass
  refine ⟨?_, ?_, last, misses, rejects.trans rejects', LineRec.commit_place d x pass r, fun unarmed => ?_, fun armed => ?_⟩
  · rw [acc, LineRec.captured_acc]
    cases ext : (r.acc d).ext with
    | none => exact Acc.add_of_none ext x
    | some m => exact Acc.add_of_some ext x
  · rw [acc]
    exact r.captured_acc_ne x pass (by cases d <;> simp [other])
  · rw [state, if_neg unarmed]
  · rw [if_pos armed] at state
    have countF : r'.accF.n = (r.captured d x pass).accF.n := congrArg Acc.n (congrFun acc .fwd)
    have countB : r'.accB.n = (r.captured d x pass).accB.n := congrArg Acc.n (congrFun acc .bwd)
    rw [state, countF, countB, ← quotaF, ← quotaB]
    exact ⟨LineRec.settledState_eq_complete.trans LineRec.finished_iff, (r.captured d x pass).settledState_cases⟩

/-! ### The statistics (R137 to R141) -/

/-- A rational number rounded to the nearest integer, halves away from zero (R137). -/
def roundedAway (v : ℚ) : Int := if v < 0 then -⌊-v + 1 / 2⌋ else ⌊v + 1 / 2⌋

theorem divAway_eq_roundedAway (a : Int) {b : Int} (hb : 0 < b) : divAway a b = roundedAway ((a : ℚ) / b) := by
  have hb' : (0 : ℚ) < b := by exact_mod_cast hb
  unfold roundedAway
  by_cases ha : a < 0
  · rw [divAway_neg ha, divNearest_eq_floor _ hb, if_pos (div_neg_of_neg_of_pos (by exact_mod_cast ha) hb')]
    push_cast
    rw [neg_div]
  · rw [divAway_nonneg (not_lt.mp ha), divNearest_eq_floor _ hb,
      if_neg (not_lt.mpr (div_nonneg (by exact_mod_cast not_lt.mp ha) hb'.le))]

/-- The mean of an accumulator before its rounding (R138). -/
def Acc.exactMean (a : Acc) : ℚ := (a.sum : ℚ) / a.n

theorem Acc.mean_eq {a : Acc} (counted : a.n ≠ 0) : a.mean = some (roundedAway a.exactMean) := by
  rw [Acc.mean, if_neg counted, divAway_eq_roundedAway _ (by omega)]
  rfl

/-- The centre of a record before its rounding (R140). -/
def LineRec.exactCentre (r : LineRec) : ℚ :=
  if r.accF.n = 0 then r.accB.exactMean
  else if r.accB.n = 0 then r.accF.exactMean
  else (r.accF.exactMean + r.accB.exactMean) / 2

theorem LineRec.centreFraction_of_empty {r : LineRec} (hF : r.accF.n = 0) (hB : r.accB.n = 0) :
    r.centreFraction = none := by
  simp [LineRec.centreFraction, hF, hB]

/-- The part's single fraction is the exact centre (R140). -/
theorem LineRec.centreFraction_of_counted {r : LineRec} (counted : r.accF.n ≠ 0 ∨ r.accB.n ≠ 0) :
    ∃ num den : Int, r.centreFraction = some (num, den) ∧ 0 < den ∧ (num : ℚ) / den = r.exactCentre := by
  unfold LineRec.centreFraction LineRec.exactCentre Acc.exactMean
  by_cases hF : r.accF.n = 0
  · have hB : r.accB.n ≠ 0 := counted.resolve_left (not_not_intro hF)
    exact ⟨r.accB.sum, r.accB.n, by simp [hF, hB], by omega, by simp [hF]⟩
  · by_cases hB : r.accB.n = 0
    · exact ⟨r.accF.sum, r.accF.n, by simp [hF, hB], by omega, by simp [hF, hB]⟩
    · refine ⟨r.accF.sum * r.accB.n + r.accB.sum * r.accF.n, 2 * r.accF.n * r.accB.n, by simp [hF, hB],
        by positivity, ?_⟩
      rw [if_neg hF, if_neg hB]
      have hF' : (r.accF.n : ℚ) ≠ 0 := by exact_mod_cast hF
      have hB' : (r.accB.n : ℚ) ≠ 0 := by exact_mod_cast hB
      push_cast
      field_simp

theorem LineRec.centre_of_empty {r : LineRec} (hF : r.accF.n = 0) (hB : r.accB.n = 0) : r.centre = none := by
  rw [LineRec.centre, LineRec.centreFraction_of_empty hF hB, Option.map_none]

theorem LineRec.centre_eq {r : LineRec} (counted : r.accF.n ≠ 0 ∨ r.accB.n ≠ 0) :
    r.centre = some (roundedAway r.exactCentre) := by
  obtain ⟨num, den, fraction, pos, exact'⟩ := LineRec.centreFraction_of_counted counted
  rw [LineRec.centre, fraction, Option.map_some, divAway_eq_roundedAway _ pos, exact']

theorem LineRec.bias_eq {r : LineRec} (hF : r.accF.n ≠ 0) (hB : r.accB.n ≠ 0) :
    r.bias = some (roundedAway ((r.accF.exactMean - r.accB.exactMean) / 2)) := by
  have hF' : (r.accF.n : ℚ) ≠ 0 := by exact_mod_cast hF
  have hB' : (r.accB.n : ℚ) ≠ 0 := by exact_mod_cast hB
  rw [LineRec.bias, if_neg (not_or.mpr ⟨hF, hB⟩), divAway_eq_roundedAway _ (by positivity)]
  unfold Acc.exactMean
  congr 2
  push_cast
  field_simp

theorem interval_eq {a b : LineRec} (ha : a.accF.n ≠ 0 ∨ a.accB.n ≠ 0) (hb : b.accF.n ≠ 0 ∨ b.accB.n ≠ 0) :
    interval a b = some (roundedAway ((b.n + b.exactCentre) - (a.n + a.exactCentre))) := by
  obtain ⟨na, da, fractionA, posA, exactA⟩ := LineRec.centreFraction_of_counted ha
  obtain ⟨nb, db, fractionB, posB, exactB⟩ := LineRec.centreFraction_of_counted hb
  have da' : (da : ℚ) ≠ 0 := by exact_mod_cast posA.ne'
  have db' : (db : ℚ) ≠ 0 := by exact_mod_cast posB.ne'
  simp only [interval, fractionA, fractionB]
  rw [divAway_eq_roundedAway _ (mul_pos posA posB), ← exactA, ← exactB]
  congr 2
  push_cast
  field_simp
  ring

theorem interval_of_empty {a b : LineRec}
    (empty : (a.accF.n = 0 ∧ a.accB.n = 0) ∨ (b.accF.n = 0 ∧ b.accB.n = 0)) : interval a b = none := by
  obtain ⟨hF, hB⟩ | ⟨hF, hB⟩ := empty
  · simp only [interval, LineRec.centreFraction_of_empty hF hB]
  · rw [interval, LineRec.centreFraction_of_empty hF hB]
    cases a.centreFraction <;> rfl

/-! ### The standard deviation (R139) -/

/-- The inequality of R139 that the standard deviation is the largest number to meet. -/
def Acc.Spans (a : Acc) (sd : Int) : Prop := sd ^ 2 * a.n * (a.n - 1) ≤ a.n * a.sumSq - a.sum ^ 2

/-- The test that the search for the standard deviation makes. -/
def Acc.spansTest (a : Acc) (s : Nat) : Bool :=
  decide ((s * s * a.n * (a.n - 1 : Nat) : Nat) ≤ a.n * a.sumSq - a.sum * a.sum)

theorem Acc.spansTest_iff {a : Acc} (counted : a.n ≠ 0) (s : Nat) : a.spansTest s = true ↔ a.Spans s := by
  unfold Acc.spansTest Acc.Spans
  rw [decide_eq_true_iff]
  push_cast [Nat.cast_sub (Nat.one_le_iff_ne_zero.mpr counted)]
  rw [pow_two, pow_two]

theorem Acc.deviation_eq {a : Acc} (counted : 2 ≤ a.n) : a.deviation = some (greatest a.spansTest 32 0 : Nat) :=
  if_neg (not_lt.mpr counted)

theorem Acc.Sound.spans_zero {a : Acc} (h : a.Sound) : a.Spans 0 := by
  have := h.spread
  simp only [Acc.Spans]
  linarith

/-- The upper end is reached by two deviations at opposite ends of the widest window (R139). -/
theorem Acc.Sound.spans_le {a : Acc} (h : a.Sound) (counted : 2 ≤ a.n) {sd : Int} (spans : a.Spans sd) :
    sd ≤ 70710678 := by
  obtain ⟨-, squares⟩ := h.squares
  have two : (2 : Int) ≤ a.n := by exact_mod_cast counted
  have pairs : 0 < (a.n : Int) * (a.n - 1) := mul_pos (by omega) (by omega)
  have spread : sd ^ 2 * (a.n * (a.n - 1)) ≤ 5000000000000000 * ((a.n : Int) * (a.n - 1)) :=
    calc sd ^ 2 * (a.n * (a.n - 1)) = sd ^ 2 * a.n * (a.n - 1) := by ring
      _ ≤ a.n * a.sumSq - a.sum ^ 2 := spans
      _ ≤ a.n * a.sumSq := by linarith [sq_nonneg a.sum]
      _ ≤ a.n * (a.n * 2500000000000000) := mul_le_mul_of_nonneg_left squares (by omega)
      _ ≤ 5000000000000000 * ((a.n : Int) * (a.n - 1)) := by nlinarith
  have square : sd ^ 2 ≤ 5000000000000000 := le_of_mul_le_mul_right spread pairs
  by_contra large
  nlinarith

theorem Acc.Sound.deviation_spec {a : Acc} (h : a.Sound) (counted : 2 ≤ a.n) :
    ∃ sd : Int, a.deviation = some sd ∧ 0 ≤ sd ∧ sd ≤ 70710678 ∧ a.Spans sd ∧ ¬a.Spans (sd + 1) := by
  have test := Acc.spansTest_iff (a := a) (by omega)
  obtain ⟨meets, -, -, next⟩ := greatest_spec a.spansTest 32 0 ((test 0).mpr h.spans_zero)
  have spans := (test _).mp meets
  have bound := h.spans_le counted spans
  refine ⟨_, Acc.deviation_eq counted, Int.natCast_nonneg _, bound, spans, fun further => ?_⟩
  have fails := next (by omega)
  rw [(test _).mpr (by exact_mod_cast further)] at fails
  cases fails

/-- Settles O41: each quotient of the part is the exact value's fraction, and the search ends below its last number. -/
theorem statisticsAreRoundedOnce : Obligations.StatisticsAreRoundedOnce := by
  unfold Obligations.StatisticsAreRoundedOnce
  intro away exactMean centre
  refine ⟨fun a => ⟨fun empty => if_pos empty, Acc.mean_eq, fun few => if_pos few, fun sound counted => ?_⟩,
    fun r => ⟨LineRec.centre_of_empty, LineRec.centre_eq, fun absent => if_pos absent, LineRec.bias_eq⟩,
    fun a b => ⟨interval_of_empty, interval_eq⟩⟩
  obtain ⟨sd, deviation, lo, hi, spans, next⟩ := sound.deviation_spec counted
  exact ⟨sd, deviation, lo, hi, spans, not_le.mp next⟩

end Sys2Proof.Machine

namespace Sys2Proof.Machine

/-! ### A raising (R149, R150) -/

/-- A pass that is broken counts toward no plan (R105). -/
theorem Traverse.completes_broken (t : Traverse) (inStop : Bool) : t.completes .broken inStop = false := by
  simp [Traverse.completes, Traverse.debited]

/-- A break raises PASS_END and, for the occupancy that it closes, REJECT alone (R105). -/
theorem State.endPass_broken_source (s : State) (inStop : Bool) {i : Fin 16} (h9 : i ≠ 9) (h12 : i ≠ 12) :
    (s.endPass .broken inStop).source i = s.source i := by
  by_cases h10 : i = 10
  · subst h10
    by_cases running : s.trav.ctl = .running
    · rw [State.endPass_source_planDone running, Traverse.completes_broken, if_neg Bool.false_ne_true]
    · rw [State.endPass_of_not_running running]
  · exact s.endPass_source .broken inStop h9 h10 h12

theorem State.raise_of_breaks {s : State} {d : Detail} (acts : (s.source d.source).action ≠ .none) :
    s.raise d = (s.note d).endPass .broken false := if_pos acts

/-- Settles O52: a raising that breaks nothing is its note, and one that breaks a pass is the note and a BROKEN end
after it. -/
theorem raisingIsCountedAndMayBreak : Obligations.RaisingIsCountedAndMayBreak := by
  intro s d i noted
  have raised : (s.source i).raise d = noted := by
    simp only [noted, Source.raise, satInc_eq_min]
  refine ⟨fun quiet => ?_, fun acts running => ?_⟩
  · rw [State.raise_eq_note quiet, ← raised]
    rfl
  · have running' : (s.note d).trav.ctl = .running := running
    have trav := State.endPass_broken_trav running' false
    have source : ∀ j : Fin 16, j ≠ 9 → j ≠ 12 → (s.raise d).source j = (s.note d).source j := fun j h9 h12 => by
      rw [State.raise_of_breaks acts, State.endPass_broken_source _ _ h9 h12]
    refine ⟨?_, ?_, ?_, fun h9 h12 => ?_, fun j other h9 h12 => ?_⟩
    · rw [State.raise_of_breaks acts, trav]
    · rw [State.raise_of_breaks acts, trav]
      rfl
    · rw [State.raise_of_breaks acts, State.endPass_source_passEnd running', Source.raise_raised]
      exact ⟨_, rfl⟩
    · rw [source i h9 h12, ← raised]
      exact s.source_note_self d
    · rw [source j h9 h12, State.source_note_ne s other]

end Sys2Proof.Machine

namespace Sys2Proof.Machine

/-! ### The output lines (R106, R152, R153, R167) -/

/-- Some source of the attention unit meets a test. -/
theorem State.any_source_iff {s : State} {p : Source → Bool} :
    s.att.sources.toList.any p = true ↔ ∃ i, p (s.source i) = true := by
  simp only [List.any_eq_true, Vector.mem_toList_iff, Vector.mem_iff_getElem, State.source]
  constructor
  · rintro ⟨x, ⟨i, hi, rfl⟩, meets⟩
    exact ⟨⟨i, hi⟩, meets⟩
  · rintro ⟨i, meets⟩
    exact ⟨_, ⟨i.val, i.isLt, rfl⟩, meets⟩

theorem Source.pending_iff {x : Source} : x.pending = true ↔ x.raised ≠ none := Option.isSome_iff_ne_none

theorem State.attn_iff {s : State} : s.attn = true ↔ s.active = true ∧
    ∃ i, (s.source i).raised ≠ none ∧ s.att.threshold < (s.source i).level := by
  simp only [State.attn, Bool.and_eq_true, State.any_source_iff, Source.pending_iff, decide_eq_true_eq]

theorem State.mstop_iff {s : State} : s.mstop = true ↔ s.active = true ∧
    ∃ i, (s.source i).raised ≠ none ∧ (s.source i).action = .stop := by
  simp only [State.mstop, Bool.and_eq_true, State.any_source_iff, Source.pending_iff, decide_eq_true_eq]

theorem State.win_iff {s : State} : s.win = true ↔ s.active = true ∧ s.trav.ctl = .running ∧
    ∃ d p, s.trav.dir = some d ∧ s.tracks.rt = some p ∧
      ∃ r ∈ s.table.records, r.n - r.w ≤ p ∧ p ≤ r.n + r.w ∧ r.eligible d = true := by
  unfold State.win
  rw [Bool.and_eq_true, Bool.and_eq_true, State.running_iff, and_assoc]
  refine and_congr_right' (and_congr_right' ?_)
  split
  · next d p dir rt =>
    simp only [dir, rt, Option.some.injEq, exists_eq_left', exists_and_left, List.any_eq_true, Bool.and_eq_true,
      LineRec.contains_iff, and_assoc]
  · next absent =>
    refine iff_of_false Bool.false_ne_true ?_
    rintro ⟨d, p, dir, rt, -⟩
    exact absent d p dir rt

theorem State.rdy_eq_false_iff {s : State} : s.rdy = false ↔ ∃ r, s.port.link = .holding r := by
  unfold State.rdy
  split <;> simp_all

/-! ### The first source (R155) -/

/-- Source `b` comes before source `j` in the order of R155: by the higher level, then by the lower number. -/
def State.Precedes (s : State) (b j : Fin 16) : Prop :=
  (s.source j).level < (s.source b).level ∨ ((s.source j).level = (s.source b).level ∧ b ≤ j)

/-- Among the sources of a list, `b` is the pending one that R155 puts first. -/
structure State.LeadsAmong (s : State) (xs : List (Fin 16)) (b : Fin 16) : Prop where
  mem : b ∈ xs
  pending : (s.source b).raised ≠ none
  first : ∀ j ∈ xs, (s.source j).raised ≠ none → s.Precedes b j

/-- One more source leaves the first of those before it in the lead, where it is quiet or comes after it. -/
theorem State.LeadsAmong.keep {s : State} {xs : List (Fin 16)} {b i : Fin 16} (h : s.LeadsAmong xs b)
    (after : (s.source i).raised ≠ none → s.Precedes b i) : s.LeadsAmong (xs ++ [i]) b where
  mem := List.mem_append_left _ h.mem
  pending := h.pending
  first j hj := by
    obtain hj | rfl := List.mem_append.mp hj |>.imp_right List.mem_singleton.mp
    · exact h.first j hj
    · exact after

/-- One more source takes the lead, where it comes before every pending one. -/
theorem State.leadsAmong_last {s : State} {xs : List (Fin 16)} {i : Fin 16} (pending : (s.source i).raised ≠ none)
    (before : ∀ j ∈ xs, (s.source j).raised ≠ none → s.Precedes i j) : s.LeadsAmong (xs ++ [i]) i where
  mem := List.mem_append_right _ (List.mem_singleton_self i)
  pending := pending
  first j hj := by
    obtain hj | rfl := List.mem_append.mp hj |>.imp_right List.mem_singleton.mp
    · exact before j hj
    · exact fun _ => .inr ⟨rfl, le_rfl⟩

theorem State.better_of_quiet {s : State} {i : Fin 16} (quiet : (s.source i).raised = none) (best : Option (Fin 16)) :
    s.better best i = best := by
  simp [State.better, Source.pending, quiet]

theorem State.better_none {s : State} {i : Fin 16} (pending : (s.source i).raised ≠ none) :
    s.better none i = some i := by
  simp [State.better, Source.pending_iff.mpr pending]

theorem State.better_some {s : State} {i : Fin 16} (pending : (s.source i).raised ≠ none) (b : Fin 16) :
    s.better (some b) i = if (s.source b).level < (s.source i).level then some i else some b := by
  simp [State.better, Source.pending_iff.mpr pending]

/-- The best of sources in ascending order: none where none is pending, and otherwise the first of them. -/
theorem State.foldl_better_spec (s : State) {xs : List (Fin 16)} (ascending : xs.Pairwise (· < ·)) :
    (xs.foldl s.better none = none → ∀ j ∈ xs, (s.source j).raised = none) ∧
      ∀ b, xs.foldl s.better none = some b → s.LeadsAmong xs b := by
  induction xs using List.reverseRecOn with
  | nil => simp
  | append_singleton xs i ih =>
    obtain ⟨ascending, -, above⟩ := List.pairwise_append.mp ascending
    obtain ⟨noneSeen, leads⟩ := ih ascending
    rw [List.foldl_concat]
    by_cases quiet : (s.source i).raised = none
    · rw [State.better_of_quiet quiet]
      refine ⟨fun e j hj => ?_, fun b e => (leads b e).keep (absurd quiet)⟩
      obtain hj | rfl := List.mem_append.mp hj |>.imp_right List.mem_singleton.mp
      · exact noneSeen e j hj
      · exact quiet
    · cases held : xs.foldl s.better none with
      | none =>
        rw [State.better_none quiet]
        refine ⟨nofun, fun b e => ?_⟩
        cases e
        exact State.leadsAmong_last quiet fun j hj pending => absurd (noneSeen held j hj) pending
      | some b =>
        have leads := leads b held
        have below : b < i := above b leads.mem i (List.mem_singleton_self i)
        rw [State.better_some quiet]
        split
        · next higher =>
          refine ⟨nofun, fun b' e => ?_⟩
          cases e
          refine State.leadsAmong_last quiet fun j hj pending => .inl ?_
          obtain lower | ⟨same, -⟩ := leads.first j hj pending
          · exact lower.trans higher
          · exact same.trans_lt higher
        · next notHigher =>
          refine ⟨nofun, fun b' e => ?_⟩
          cases e
          exact leads.keep fun _ => (lt_or_eq_of_le (not_lt.mp notHigher)).imp_right fun same => ⟨same, below.le⟩

theorem State.firstSource_eq_some {s : State} {b : Fin 16} :
    s.firstSource = some b ↔ s.LeadsAmong (List.finRange 16) b := by
  obtain ⟨noneSeen, leads⟩ := s.foldl_better_spec (List.pairwise_lt_finRange 16)
  refine ⟨leads b, fun h => ?_⟩
  cases e : s.firstSource with
  | none => exact absurd (noneSeen e b h.mem) h.pending
  | some b' =>
    have h' := leads b' e
    have le := h.first b' h'.mem h'.pending
    have ge := h'.first b h.mem h.pending
    unfold State.Precedes at le ge
    exact congrArg some (by omega)

theorem State.firstSource_eq_none {s : State} : s.firstSource = none ↔ ∀ i, (s.source i).raised = none := by
  obtain ⟨noneSeen, -⟩ := s.foldl_better_spec (List.pairwise_lt_finRange 16)
  refine ⟨fun e i => noneSeen e i (List.mem_finRange i), fun quiet => ?_⟩
  cases e : s.firstSource with
  | none => rfl
  | some b => exact absurd (quiet b) (State.firstSource_eq_some.mp e).pending

/-- Settles O53: each line by its test, and the first source by the best of the sixteen in ascending order. -/
theorem linesFollowTheirSources : Obligations.LinesFollowTheirSources := by
  intro s works pending
  have active : s.active = true ↔ works := State.active_iff
  refine ⟨?_, ?_, ?_, State.rdy_eq_false_iff, ?_, fun i => ?_⟩
  · rw [State.attn_iff, active]
  · rw [State.mstop_iff, active]
  · rw [State.win_iff, active]
  · simp only [State.firstSource_eq_none, pending, not_not]
  · refine State.firstSource_eq_some.trans ⟨fun h => ⟨h.pending, fun j => h.first j (List.mem_finRange j)⟩, fun h => ?_⟩
    exact ⟨List.mem_finRange i, h.1, fun j _ => h.2 j⟩

end Sys2Proof.Machine

namespace Sys2Proof.Machine

/-! ### What holds a condition source pending (R146, R147, R149) -/

/-- The attention unit's levels, counts and details lie in their ranges: what its invariant says of it alone. -/
structure Attention.InRange (a : Attention) : Prop where
  threshold : a.threshold ≤ 7
  levels : ∀ i : Fin 16, a.sources[i].level ≤ 7
  counts : ∀ i : Fin 16, ∀ r, a.sources[i].raised = some r → 1 ≤ r.count ∧ r.count ≤ 255 ∧ r.detail.source = i

section
variable {s : State} {i : Fin 16} {c : Fin 4}

theorem State.conditionDetail_channel (hi : i.val = c.val) :
    s.conditionDetail i = if (s.chan c).state = .lost then some (.lost c (s.chan c).loss) else none := by
  have below : i.val < 4 := hi ▸ c.isLt
  have own : (⟨i.val, below⟩ : Fin 4) = c := Fin.ext hi
  rw [State.conditionDetail, dif_pos below, own]

theorem State.conditionDetail_environment :
    s.conditionDetail 6 = if s.comp.stale then some s.comp.staleDetail else none := rfl

theorem State.conditionDetail_of_other (above : 4 ≤ i.val) (other : i ≠ 6) : s.conditionDetail i = none := by
  rw [State.conditionDetail, dif_neg (not_lt.mpr above), if_neg other]

end

theorem State.conditionDetail_source {s : State} {i : Fin 16} {d : Detail} (h : s.conditionDetail i = some d) :
    d.source = i := by
  by_cases below : i.val < 4
  · rw [State.conditionDetail_channel (c := ⟨i.val, below⟩) rfl] at h
    split at h <;> cases h
    rfl
  · by_cases six : i = 6
    · subst six
      rw [State.conditionDetail_environment] at h
      split at h <;> cases h
      rfl
    · rw [State.conditionDetail_of_other (not_lt.mp below) six] at h
      cases h

/-- The conditions of the condition sources: a LOST channel for LOSTn, a stale environment for ENV_STALE (R146). -/
theorem State.condition_iff {s : State} {i : Fin 16} : s.conditionDetail i ≠ none ↔
    (∃ c : Fin 4, i.val = c.val ∧ (s.chan c).state = .lost) ∨ (i = 6 ∧ s.comp.stale = true) := by
  by_cases below : i.val < 4
  · have named : (∃ c : Fin 4, i.val = c.val ∧ (s.chan c).state = .lost) ↔ (s.chan ⟨i.val, below⟩).state = .lost :=
      ⟨fun ⟨c, e, lost⟩ => (Fin.ext e : (⟨i.val, below⟩ : Fin 4) = c) ▸ lost, fun lost => ⟨⟨i.val, below⟩, rfl, lost⟩⟩
    have other : i ≠ 6 := by omega
    rw [State.conditionDetail_channel (c := ⟨i.val, below⟩) rfl, named]
    simp [other]
  · rw [or_iff_right fun ⟨c, e, _⟩ => below (e ▸ c.isLt)]
    by_cases six : i = 6
    · subst six
      rw [State.conditionDetail_environment]
      simp
    · rw [State.conditionDetail_of_other (not_lt.mp below) six]
      simp [six]

/-- The invariant of the attention unit: its own ranges, and every source pending whose condition holds. -/
theorem State.attentionSound_iff {s : State} :
    s.AttentionSound ↔ s.att.InRange ∧ ∀ i, s.conditionDetail i ≠ none → (s.source i).raised ≠ none := by
  refine ⟨fun h => ⟨⟨h.threshold, h.levels, h.counts⟩, fun i condition => ?_⟩, fun ⟨ranges, pending⟩ => ?_⟩
  · obtain ⟨c, e, lost⟩ | ⟨rfl, stale⟩ := State.condition_iff.mp condition
    · exact (Fin.ext e : i = ⟨c.val, by omega⟩) ▸ h.lost c lost
    · exact h.stale stale
  · exact ⟨ranges.threshold, ranges.levels, ranges.counts,
      fun c lost => pending _ (State.condition_iff.mpr (.inl ⟨c, rfl, lost⟩)),
      fun stale => pending 6 (State.condition_iff.mpr (.inr ⟨rfl, stale⟩))⟩

/-- From `s` to `t` the attention unit stays in its ranges, no source is cleared, and a condition that begins has raised its
source. -/
structure State.Upholds (s t : State) : Prop where
  ranges : s.att.InRange → t.att.InRange
  pending : ∀ i, (s.source i).raised ≠ none → (t.source i).raised ≠ none
  condition : ∀ i, t.conditionDetail i ≠ none → s.conditionDetail i ≠ none ∨ (t.source i).raised ≠ none

theorem State.Upholds.sound {s t : State} (w : s.Upholds t) (h : s.AttentionSound) : t.AttentionSound := by
  obtain ⟨ranges, pending⟩ := State.attentionSound_iff.mp h
  exact State.attentionSound_iff.mpr
    ⟨w.ranges ranges, fun i condition => (w.condition i condition).elim (fun held => w.pending i (pending i held)) id⟩

theorem State.Upholds.refl (s : State) : s.Upholds s := ⟨id, fun _ => id, fun _ => .inl⟩

theorem State.Upholds.trans {s t u : State} (w : s.Upholds t) (w' : t.Upholds u) : s.Upholds u where
  ranges := w'.ranges ∘ w.ranges
  pending i := w'.pending i ∘ w.pending i
  condition i h := by
    obtain held | raised := w'.condition i h
    · exact (w.condition i held).imp_right (w'.pending i)
    · exact .inr raised

theorem State.Upholds.ite {s t u : State} (p : Prop) [Decidable p] (ht : s.Upholds t) (hu : s.Upholds u) :
    s.Upholds (if p then t else u) := by
  split
  · exact ht
  · exact hu

/-- Conditions that begin before `t` and are raised by then. -/
theorem State.Upholds.after {s t u : State} (att : u.att = s.att) (w : u.Upholds t)
    (begins : ∀ i, u.conditionDetail i ≠ none → s.conditionDetail i ≠ none ∨ (t.source i).raised ≠ none) :
    s.Upholds t where
  ranges h := w.ranges (att ▸ h)
  pending i h := w.pending i (State.source_congr att i ▸ h)
  condition i h := (w.condition i h).elim (begins i) .inr

/-- The attention unit left alone, no channel lost and no condition begun. -/
theorem State.upholds_of {s t : State} (att : t.att = s.att)
    (lost : ∀ c, (t.chan c).state = .lost → (s.chan c).state = .lost)
    (stale : t.comp.stale = true → s.comp.stale = true) : s.Upholds t :=
  (State.Upholds.refl t).after att fun _ condition => .inl <| State.condition_iff.mpr <|
    (State.condition_iff.mp condition).imp (fun ⟨c, e, h⟩ => ⟨c, e, lost c h⟩) (And.imp_right stale)

theorem State.upholds_setChan {s : State} {c : Fin 4} {ch : Channel}
    (lost : ch.state = .lost → (s.chan c).state = .lost) : s.Upholds (s.setChan c ch) :=
  State.upholds_of rfl (fun c' => by
    rw [State.chan_setChan]
    split
    · next e => exact e ▸ lost
    · exact id) id

/-! ### A raising and the works of the pass and the engine (R104, R105, R149, R150) -/

theorem satInc_bounds (n : Nat) : 1 ≤ satInc 255 n ∧ satInc 255 n ≤ 255 := by
  rw [satInc_eq_min]
  omega

/-- A note keeps its source's level, counts 1 to 255 and names its source (R149). -/
theorem Attention.InRange.note {s : State} (h : s.att.InRange) (d : Detail) : (s.note d).att.InRange where
  threshold := h.threshold
  levels i := by
    by_cases same : i = d.source
    · subst same
      exact (congrArg Source.level (s.source_note_self d)).trans_le (h.levels d.source)
    · exact (congrArg Source.level (s.source_note_ne same)).trans_le (h.levels i)
  counts i r hr := by
    by_cases same : i = d.source
    · subst same
      cases (congrArg Source.raised (s.source_note_self d)).symm.trans hr
      exact ⟨(satInc_bounds _).1, (satInc_bounds _).2, rfl⟩
    · exact h.counts i r ((congrArg Source.raised (s.source_note_ne same)).symm.trans hr)

theorem State.note_pending_self (s : State) (d : Detail) : ((s.note d).source d.source).raised ≠ none := by
  rw [State.note_raised]
  exact Option.some_ne_none _

theorem State.upholds_note (s : State) (d : Detail) : s.Upholds (s.note d) where
  ranges h := h.note d
  pending i h := by
    by_cases same : i = d.source
    · exact same ▸ s.note_pending_self d
    · rwa [State.source_note_ne s same]
  condition _ := .inl

/-- The pass and the registration engine clear no source, and no condition begins by them. -/
theorem State.Works.upholds {s t : State} (w : s.Works t) : s.Upholds t := by
  induction w with
  | refl s => exact .refl s
  | trans _ _ ih ih' => exact ih.trans ih'
  | write | reach => exact State.upholds_of rfl (fun _ => id) id
  | note s d => exact s.upholds_note d
  | passHoldStep s =>
    refine State.upholds_of s.passHoldStep_att (fun c => ?_) (fun h => ?_)
    · rw [State.chan_congr s.passHoldStep_chans]
      exact id
    · rwa [(State.Works.passHoldStep s).comp] at h
  | setOrigin s c o =>
    exact State.upholds_setChan
      (ch := { s.chan c with origin := o, referenced := true, nu0 := s.comp.nuApplied }) id

theorem State.upholds_raise (s : State) (d : Detail) : s.Upholds (s.raise d) := (s.works_raise d).upholds

/-- A raising leaves its source pending, whatever it breaks (R149, R150). -/
theorem State.raise_pending_self (s : State) (d : Detail) : ((s.raise d).source d.source).raised ≠ none := by
  obtain h | ⟨h, -, -⟩ := s.raise_cases d <;> rw [h]
  · exact s.note_pending_self d
  · exact (State.works_endPass _ _ _).upholds.pending _ (s.note_pending_self d)

/-! ### Samples (R10, R36) -/

/-- A channel that a count leaves LOST was LOST before, or the count finds its loss. -/
def Counted.TellsLoss (ch : Channel) (r : Counted) : Prop := r.ch.state = .lost → ch.state = .lost ∨ r.lost ≠ none

theorem Channel.tellsLoss_lose (ch before : Channel) (reason : Loss) (phi q : Int) :
    (before.lose reason phi q).TellsLoss ch := fun _ => .inr (Option.some_ne_none reason)

theorem Channel.tellsLoss_unwrap (ch before : Channel) (phi : Int) : (before.unwrap phi).TellsLoss ch := by
  obtain ⟨-, h⟩ | ⟨-, -, h⟩ | ⟨-, -, h⟩ := before.unwrap_cases phi rfl rfl <;> rw [h]
  · exact ch.tellsLoss_lose _ _ _ _
  · exact ch.tellsLoss_lose _ _ _ _
  · exact nofun

theorem Channel.tellsLoss_settleStep (ch : Channel) (p : Point) : (ch.settleStep p).TellsLoss ch := by
  unfold Channel.settleStep
  split
  · exact ch.tellsLoss_unwrap _ _
  · exact .inl

theorem Channel.tellsLoss_extrapolate (ch : Channel) (a : CoastAnchor) (phi : Int) :
    (ch.extrapolate a phi).TellsLoss ch := by
  obtain ⟨-, h⟩ | ⟨-, h⟩ := ch.extrapolate_cases a phi <;> rw [h]
  · exact ch.tellsLoss_lose _ _ _ _
  · exact nofun

theorem Channel.tellsLoss_coastStep (ch : Channel) (a : CoastAnchor) (p : Point) : (ch.coastStep a p).TellsLoss ch := by
  unfold Channel.coastStep
  split
  · obtain ⟨-, h⟩ | ⟨-, -, h⟩ | ⟨-, -, h⟩ := ch.bridgeStep_cases (a.advanced true) p.phi rfl rfl <;> rw [h]
    · exact ch.tellsLoss_lose _ _ _ _
    · exact ch.tellsLoss_lose _ _ _ _
    · exact nofun
  · split
    · exact ch.tellsLoss_lose _ _ _ _
    · exact ch.tellsLoss_extrapolate _ _

theorem Channel.tellsLoss_trackStep (ch : Channel) (p : Point) : (ch.trackStep p).TellsLoss ch := by
  unfold Channel.trackStep
  split
  · exact ch.tellsLoss_extrapolate _ _
  · exact ch.tellsLoss_unwrap _ _

theorem Channel.tellsLoss_countStep (ch : Channel) (p : Point) : (ch.countStep p).TellsLoss ch := by
  unfold Channel.countStep
  split
  · exact .inl
  · exact ch.tellsLoss_settleStep p
  · exact ch.tellsLoss_trackStep p
  · exact ch.tellsLoss_coastStep _ p
  · exact ch.tellsLoss_settleStep p

theorem Channel.tellsLoss_count (ch : Channel) (x : SampleIn) : (ch.count x).TellsLoss ch := fun lost => by
  have tells := (ch.watched (ch.point x)).tellsLoss_countStep (ch.point x) lost
  rwa [Channel.watched_state] at tells

/-- The part when a channel has counted: what begins there is the loss that the count finds, still to be reported. -/
theorem State.counting_condition {s : State} {x : SampleIn} {i : Fin 16} (h : (s.counting x).conditionDetail i ≠ none) :
    s.conditionDetail i ≠ none ∨ (i.val = x.ch.val ∧ ((s.chan x.ch).count x).lost ≠ none) := by
  have chan : ∀ c, (s.counting x).chan c = if c = x.ch then ((s.chan x.ch).count x).ch else s.chan c := fun c => by
    rw [← s.chan_setChan]
    exact State.chan_congr ((State.quiet_startRun _ _ _ _).chans.trans (State.judgeAnchor_chans _ _)) c
  have stale : (s.counting x).comp.stale = s.comp.stale := by
    rw [State.counting, State.judgeAnchor_eq, (State.works_startRun _ _ _ _).comp]
    rfl
  obtain ⟨c, hc, lost⟩ | ⟨six, holds⟩ := State.condition_iff.mp h
  · rw [chan] at lost
    split at lost
    · next counts =>
      subst counts
      refine (Channel.tellsLoss_count _ x lost).imp (fun was => ?_) fun found => ⟨hc, found⟩
      exact State.condition_iff.mpr (.inl ⟨x.ch, hc, was⟩)
    · exact .inl (State.condition_iff.mpr (.inl ⟨c, hc, lost⟩))
  · exact .inl (State.condition_iff.mpr (.inr ⟨six, stale ▸ holds⟩))

/-- A sample raises LOSTn for the loss that its count finds (R36). -/
theorem State.upholds_countNow (s : State) (x : SampleIn) : s.Upholds (s.countNow x) := by
  rw [State.countNow_eq]
  set r := (s.chan x.ch).count x
  have reported : s.Upholds ((s.toReport x).reportCount x.ch r) := by
    have att : (s.counting x).att = s.att := by
      unfold State.counting State.startRun
      rw [State.judgeAnchor_eq]
      split <;> rfl
    refine (s.works_reported x).upholds.after att fun i begins => (State.counting_condition begins).imp_right ?_
    rintro ⟨hi, found⟩
    obtain ⟨reason, lost⟩ := Option.ne_none_iff_exists'.mp found
    obtain ⟨n, raised⟩ := (s.toReport x).reportCount_lost_raised x.ch lost
    rw [show i = ⟨x.ch.val, by omega⟩ from Fin.ext hi, raised]
    exact Option.some_ne_none _
  refine reported.trans ?_
  rw [State.followTracks_frame]
  exact State.upholds_of rfl (fun _ => id) id

theorem State.upholds_countSample (s : State) (x : SampleIn) : s.Upholds (s.countSample x) :=
  .ite _ ((s.works_dueFirst x.ch).upholds.trans (State.upholds_countNow _ x)) (.refl s)

theorem State.upholds_countIf (s : State) (x : SampleIn) (kind : Channel → Point → Bool) : s.Upholds (s.countIf x kind) :=
  .ite _ (s.upholds_countSample x) (.refl s)

/-! ### The update (R46, R53) -/

/-- An update raises ENV_STALE where its condition begins (R53). -/
theorem State.upholds_update (s : State) : s.Upholds s.update := by
  refine .ite _ ?_ (.refl s)
  have moved : s.moved.att = s.att ∧ s.moved.chans = s.chans ∧ s.moved.comp.stale = s.comp.stale := by
    rw [s.moved_eq]
    exact ⟨rfl, rfl, rfl⟩
  obtain ⟨att, chans, stale⟩ := moved
  have lost : ∀ c, (s.moved.judged.chan c).state = .lost → (s.chan c).state = .lost := fun c h => by
    rwa [State.chan_congr (t := s.moved.judged) chans] at h
  show s.Upholds s.moved.judgeStale
  by_cases begins : s.moved.comp.judgesStale = true ∧ s.moved.comp.stale = false
  · rw [State.judgeStale_of_begins begins.1 begins.2]
    refine State.Upholds.after (u := s.moved.judged) att (State.upholds_raise _ _) fun i condition => ?_
    obtain ⟨c, hc, h⟩ | ⟨rfl, -⟩ := State.condition_iff.mp condition
    · exact .inl (State.condition_iff.mpr (.inl ⟨c, hc, lost c h⟩))
    · exact .inr (State.raise_pending_self _ s.moved.comp.staleDetail)
  · rw [State.judgeStale_of_not begins]
    refine State.upholds_of att lost fun judges => ?_
    rw [← stale]
    exact Bool.not_eq_false _ |>.mp fun fresh => begins ⟨judges, fresh⟩

/-! ### Requests (R17 to R22, R48, R54, R56, R147, R156) -/

theorem onChannel_upholds {b : Byte} {f : Fin 4 → State → State × Response} {s : State}
    (hf : ∀ c, s.Upholds (f c s).1) : s.Upholds (onChannel b f s).1 := by
  unfold onChannel
  split
  · exact .refl s
  · exact hf _

theorem State.upholds_channelOnAt (s : State) (c : Fin 4) : s.Upholds (channelOnAt c s).1 := by
  unfold Machine.channelOnAt
  split
  · exact .refl s
  · have started : s.Upholds (s.setChan c ((s.chan c).started s.measure.next)) := State.upholds_setChan nofun
    exact started.trans (State.Works.ite _ (State.works_trav _ _)).upholds

theorem State.upholds_switchOff (s : State) (c : Fin 4) : s.Upholds (s.switchOff c) := by
  have stopped : s.Upholds (s.setChan c (s.chan c).stopped) := State.upholds_setChan nofun
  have halted : (s.setChan c (s.chan c).stopped).Upholds (s.halted c) := by
    rw [State.halted, State.offEngine_frame, State.judgeAnchor_eq]
    exact State.upholds_of rfl (fun _ => id) id
  rw [State.switchOff_eq]
  exact (stopped.trans halted).trans (State.works_abortProbe _ _).upholds

theorem State.upholds_channelOffAt (s : State) (c : Fin 4) : s.Upholds (channelOffAt c s).1 := by
  unfold Machine.channelOffAt
  split
  · exact .refl s
  · exact .ite _ (.refl s) (s.upholds_switchOff c)

theorem State.upholds_setChannelOn (s : State) (q : SetChannelReq) (c : Fin 4) : s.Upholds (setChannelOn q c s).1 := by
  have written : ∀ after : Channel, after.state = (s.chan c).state → s.Upholds (s.withChannel c after) :=
    fun after state =>
      (State.upholds_setChan (fun lost => state ▸ lost)).trans
        (State.upholds_of (s := s.setChan c after) rfl (fun _ => id) id)
  unfold Machine.setChannelOn
  split
  · exact .refl s
  · split
    · exact .refl s
    · split
      · exact .refl s
      · split
        · dsimp only
          rw [State.applyChannel_eq]
          have set := fun role sense passK source => written (q.apply role sense passK source (s.chan c)) rfl
          split
          · exact (set _ _ _ _).trans (State.works_endPass _ _ _).upholds
          · exact set _ _ _ _
        · exact .refl s

theorem State.upholds_setChannel (s : State) (q : SetChannelReq) : s.Upholds (setChannel q s).1 := by
  unfold Machine.setChannel
  split
  · exact .refl s
  · exact onChannel_upholds (s.upholds_setChannelOn q)

theorem State.upholds_setMonitor (s : State) (q : SetMonitorReq) : s.Upholds (setMonitor q s).1 := by
  unfold Machine.setMonitor
  split
  · exact .refl s
  · exact onChannel_upholds fun c => State.upholds_setChan (ch := { s.chan c with mon := q.apply (s.chan c).mon }) id

/-- Settings carried are no update: the condition stays as the latest update judged it (R48, R53). -/
theorem State.upholds_setCompensation (s : State) (q : SetCompensationReq) : s.Upholds (setCompensation q s).1 := by
  unfold Machine.setCompensation
  split
  · exact .refl s
  · split
    · split
      · exact .refl s
      · unfold State.applyCompensation
        dsimp only
        refine State.Upholds.trans ?_ (State.Works.ite _ (State.works_trav _ _)).upholds
        split <;> exact State.upholds_of rfl (fun _ => id) id
    · exact .refl s

theorem State.upholds_putEnvironment (s : State) (q : PutEnvironmentReq) : s.Upholds (putEnvironment q s).1 := by
  unfold Machine.putEnvironment
  split
  · exact .refl s
  · refine State.Upholds.trans ?_ (State.Works.ite _ (State.works_raise _ _)).upholds
    exact State.upholds_of rfl (fun _ => id) id

theorem State.upholds_anchorTracker (s : State) (nu : Option (BitVec 32)) (unlisted : BitVec 7) :
    s.Upholds (anchorTracker nu unlisted s).1 := by
  have anchored : ∀ a, s.Upholds (s.setAnchor a) := fun a => State.upholds_of rfl (fun _ => id) id
  unfold Machine.anchorTracker
  split
  · exact .refl s
  · split
    · exact .refl s
    · split
      · exact .refl s
      · split
        · exact .refl s
        · split <;> split
          · exact .refl s
          · exact anchored _
          · exact .refl s
          · exact anchored _

theorem SetAttentionReq.apply_source (q : SetAttentionReq) (a : Attention) (i : Fin 16) :
    (SetAttentionReq.apply q a).sources[i] = SetAttentionReq.source q i a.sources[i] := by
  simp [SetAttentionReq.apply]

/-- Levels carried are clamped to 7, and no pending source is changed (R147). -/
theorem Attention.InRange.setAttention {a : Attention} (h : a.InRange) (q : SetAttentionReq) :
    (SetAttentionReq.apply q a).InRange where
  threshold := by
    unfold SetAttentionReq.apply
    dsimp only
    split
    · exact h.threshold
    · exact min_le_left _ _
  levels i := by
    rw [SetAttentionReq.apply_source]
    unfold SetAttentionReq.source
    dsimp only
    split
    · exact h.levels i
    · exact min_le_left _ _
  counts i r hr := by
    rw [SetAttentionReq.apply_source] at hr
    exact h.counts i r hr

theorem State.upholds_setAttention (s : State) (q : SetAttentionReq) : s.Upholds (setAttention q s).1 := by
  unfold Machine.setAttention
  split
  · exact .refl s
  · split
    · exact .refl s
    · exact {
        ranges := fun h => h.setAttention q
        pending := fun i h => by
          show ((SetAttentionReq.apply q s.att).sources[i]).raised ≠ none
          rw [SetAttentionReq.apply_source]
          exact h
        condition := fun _ => .inl }

theorem State.clearSources_source (s : State) (set : BitVec 16) (i : Fin 16) :
    (s.clearSources set).source i =
      if set.getLsbD i.val then { s.source i with raised := none } else s.source i := by
  simp [State.clearSources, State.source]

theorem Attention.InRange.clearSources {s : State} (h : s.att.InRange) (set : BitVec 16) :
    (s.clearSources set).att.InRange where
  threshold := h.threshold
  levels i := by
    show ((s.clearSources set).source i).level ≤ 7
    rw [State.clearSources_source]
    split <;> exact h.levels i
  counts i r hr := by
    change ((s.clearSources set).source i).raised = some r at hr
    rw [State.clearSources_source] at hr
    split at hr
    · cases hr
    · exact h.counts i r hr

/-- A condition that holds after its source's turn has the source pending (R156). -/
theorem State.raiseAgain_pending {set : BitVec 16} {s : State} {i : Fin 16} (named : set.getLsbD i.val = true)
    (condition : (s.raiseAgain set i).conditionDetail i ≠ none) : ((s.raiseAgain set i).source i).raised ≠ none := by
  obtain held | raised := (s.works_raiseAgain set i).upholds.condition i condition
  · obtain ⟨d, hd⟩ := Option.ne_none_iff_exists'.mp held
    have again : s.raiseAgain set i = s.raise d := by simp [State.raiseAgain, named, hd]
    rw [again, ← State.conditionDetail_source hd]
    exact s.raise_pending_self d
  · exact raised

theorem State.foldl_raiseAgain_pending {set : BitVec 16} {xs : List (Fin 16)} {s : State} {i : Fin 16} (mem : i ∈ xs)
    (named : set.getLsbD i.val = true) (condition : (xs.foldl (State.raiseAgain set) s).conditionDetail i ≠ none) :
    ((xs.foldl (State.raiseAgain set) s).source i).raised ≠ none := by
  induction xs generalizing s with
  | nil => cases mem
  | cons j xs ih =>
    obtain rfl | mem := List.mem_cons.mp mem
    · have later := (State.Works.foldl (State.works_raiseAgain set) xs (s.raiseAgain set i)).upholds
      exact (later.condition i condition).elim (fun held => later.pending i (State.raiseAgain_pending named held)) id
    · exact ih mem condition

/-- What ACKNOWLEDGE clears it raises again while its condition holds (R146, R156). -/
theorem State.AttentionSound.acknowledge {s : State} (h : s.AttentionSound) (set : BitVec 16) :
    (acknowledge set s).1.AttentionSound := by
  obtain ⟨ranges, pending⟩ := State.attentionSound_iff.mp h
  have again := (State.Works.foldl (State.works_raiseAgain set) (List.finRange 16) (s.clearSources set)).upholds
  refine State.attentionSound_iff.mpr ⟨again.ranges (ranges.clearSources set), fun i condition => ?_⟩
  by_cases named : set.getLsbD i.val = true
  · exact State.foldl_raiseAgain_pending (List.mem_finRange i) named condition
  · obtain held | raised := again.condition i condition
    · refine again.pending i ?_
      rw [State.clearSources_source, if_neg named]
      exact pending i held
    · exact raised

/-! ### The port and the resets (R161, R166, R174 to R176) -/

theorem State.upholds_port (s : State) (p : Port) : s.Upholds { s with port := p } :=
  State.upholds_of rfl (fun _ => id) id

theorem State.upholds_offerFrame (s : State) (f : Frame) : s.Upholds (s.offerFrame f) := by
  have accepted : s.Upholds (s.acceptFrame f) :=
    .ite _ (State.upholds_of rfl (fun _ => id) id) (s.upholds_port _)
  unfold State.offerFrame
  split
  · exact accepted
  · exact accepted
  · exact s.upholds_raise _
  · exact .refl s

theorem State.upholds_transaction {s : State} {judge : State → State} (judged : s.Upholds (judge s)) :
    s.Upholds (s.transaction judge) :=
  .ite _ (.refl s) (.ite _ judged (s.upholds_port _))

/-! ### Every command -/

theorem complete_attentionSound {i : Instr} {f : State → State × Response} {s t : State} (h : s.AttentionSound)
    (served : s.Upholds (f s).1) (e : complete i f s = .next t) : t.AttentionSound := by
  obtain ⟨-, h'⟩ | ⟨-, h'⟩ := complete_cases i s f <;> rw [h'] at e <;> cases e
  · exact (served.trans (State.upholds_port _ _)).sound h
  · exact h

theorem exec_attentionSound {i : Instr} {s t : State} (h : s.AttentionSound) (e : exec i s = .next t) :
    t.AttentionSound := by
  cases i with
  | powerOn | rstnAssert =>
    cases e
    exact { State.reset_attentionSound with }
  | rstnRelease =>
    cases e
    split
    · exact { State.reset_attentionSound with }
    · exact h
  | resetPart =>
    cases e
    split
    · exact { State.reset_attentionSound with }
    · exact h
  | conversion =>
    cases e
    split
    · exact { h with }
    · exact h
  | sampleCounted x =>
    cases e
    exact (s.upholds_countSample x).sound h
  | bridgeCheck x | coastTimeout x | settleComplete x | saturationSet x | saturationClear x =>
    cases e
    exact (s.upholds_countIf x _).sound h
  | probeComplete x =>
    cases e
    exact (State.Upholds.ite _ (s.upholds_countSample x) (.refl s)).sound h
  | update =>
    cases e
    exact s.upholds_update.sound h
  | envStaleCondition =>
    cases e
    exact (State.Upholds.ite _ s.upholds_update (.refl s)).sound h
  | edgeAccept level t held =>
    cases e
    exact (State.Works.ite _ (s.works_confirmLevel level t)).upholds.sound h
  | latchComplete =>
    cases e
    exact (State.Works.ite _ (s.works_eng _)).upholds.sound h
  | alignedSample =>
    cases e
    exact (State.Works.ite _ s.works_reachAligned).upholds.sound h
  | emptyTransaction bits =>
    cases e
    exact (State.upholds_transaction (.refl s)).sound h
  | requestFrame bytes tail =>
    cases e
    split
    · exact (State.upholds_transaction ((s.upholds_port _).trans (State.upholds_offerFrame _ _))).sound h
    · exact h
  | fetch n =>
    cases e
    exact (State.upholds_transaction (s.upholds_port _)).sound h
  | csnSeenHigh =>
    cases e
    exact (State.Upholds.ite _ (.refl s) (s.upholds_port _)).sound h
  | frameError => exact complete_attentionSound h (s.upholds_raise _) e
  | unknown | readCompensation | readTraverse | readProbe | readAttention =>
    exact complete_attentionSound h (.refl s) e
  | readChannel ch => exact complete_attentionSound h (onChannel_upholds fun _ => .refl s) e
  | readRecord label | readResult label =>
    exact complete_attentionSound h (onRecord_works fun _ => .refl s).upholds e
  | readInterval a b =>
    exact complete_attentionSound h (onRecord_works fun _ => onRecord_works fun _ => .refl s).upholds e
  | setChannel q => exact complete_attentionSound h (s.upholds_setChannel q) e
  | setQuadrature q =>
    refine complete_attentionSound h (onChannel_upholds fun c => ?_) e
    exact State.upholds_setChan (ch := { s.chan c with codes := q.codes }) id
  | setMonitor q => exact complete_attentionSound h (s.upholds_setMonitor q) e
  | setCompensation q => exact complete_attentionSound h (s.upholds_setCompensation q) e
  | setDetector q => exact complete_attentionSound h (s.works_setDetector q).upholds e
  | setTraverse q => exact complete_attentionSound h (s.works_setTraverse q).upholds e
  | setAttention q => exact complete_attentionSound h (s.upholds_setAttention q) e
  | channelOn ch => exact complete_attentionSound h (onChannel_upholds s.upholds_channelOnAt) e
  | channelOff ch => exact complete_attentionSound h (onChannel_upholds s.upholds_channelOffAt) e
  | preset ch value => exact complete_attentionSound h (onChannel_works (s.works_presetAt _)).upholds e
  | home => exact complete_attentionSound h s.works_home.upholds e
  | putEnvironment q => exact complete_attentionSound h (s.upholds_putEnvironment q) e
  | anchorTracker nu unlisted => exact complete_attentionSound h (s.upholds_anchorTracker nu unlisted) e
  | startPlan count => exact complete_attentionSound h (s.works_startPlan _).upholds e
  | stopPlan => exact complete_attentionSound h s.works_stopPlan.upholds e
  | endPass => exact complete_attentionSound h s.works_endPassRequest.upholds e
  | probe ch k => exact complete_attentionSound h (onChannel_works (s.works_probeAt _)).upholds e
  | insertRecord q => exact complete_attentionSound h (s.works_insertRecord q).upholds e
  | changeRecord q => exact complete_attentionSound h (s.works_changeRecord q).upholds e
  | retireRecord label => exact complete_attentionSound h (onRecord_works s.works_retireRecordOn).upholds e
  | setRecordState label state =>
    exact complete_attentionSound h (onRecord_works (s.works_setRecordStateOn state)).upholds e
  | clearResults label unlisted => exact complete_attentionSound h (s.works_clearResults label unlisted).upholds e
  | clearResultsAll unlisted => exact complete_attentionSound h (s.works_clearResultsAll unlisted).upholds e
  | findPosition p => exact complete_attentionSound h (s.works_findPosition _).upholds e
  | seek p => exact complete_attentionSound h (s.works_seek _).upholds e
  | readNext filter => exact complete_attentionSound h (s.works_readNext filter).upholds e
  | acknowledge set =>
    obtain ⟨-, h'⟩ | ⟨-, h'⟩ := complete_cases (.acknowledge set) s (acknowledge set) <;>
      cases h'.symm.trans e
    · exact (State.upholds_port _ _).sound (h.acknowledge set)
    · exact h

/-- Settles O59: a condition begins by the loss that a sample's count finds or by an update, and each raises its source at
once; only ACKNOWLEDGE and a reset clear sources, and ACKNOWLEDGE raises again those whose condition holds. -/
theorem stepKeepsAttentionSound : Obligations.StepKeepsAttentionSound := by
  intro s t h e
  unfold step at e
  split at e
  · cases e
    exact h
  · next rest _ =>
    have popped : { s with pending := rest }.AttentionSound := { h with }
    exact exec_attentionSound popped e

end Sys2Proof.Machine

namespace Sys2Proof.Machine

/-! ### SET_ATTENTION (R147, R172, R173) -/

theorem actionOf_eq {b : Byte} (h : b.toNat ≤ 2) :
    actionOf b = some (if b = 0 then .none else if b = 1 then .brk else .stop) := by
  have named : b = 0 ∨ b = 1 ∨ b = 2 := by
    have : b.toNat = 0 ∨ b.toNat = 1 ∨ b.toNat = 2 := by omega
    exact this.imp (BitVec.eq_of_toNat_eq ·) (Or.imp (BitVec.eq_of_toNat_eq ·) (BitVec.eq_of_toNat_eq ·))
  obtain rfl | rfl | rfl := named <;> rfl

theorem actionOf_eq_none_iff {b : Byte} : actionOf b = none ↔ 2 < b.toNat := by
  refine ⟨fun none => ?_, fun above => ?_⟩
  · by_contra named
    rw [actionOf_eq (not_lt.mp named)] at none
    cases none
  · unfold actionOf
    split
    · omega
    · omega
    · omega
    · rfl

/-- A request names an action that there is not. -/
theorem badAction_iff {items : List (Option Byte)} :
    badAction items = true ↔ ∃ b, some b ∈ items ∧ 2 < b.toNat := by
  simp only [badAction, List.any_eq_true]
  constructor
  · rintro ⟨x, mem, bad⟩
    cases x with
    | none => cases bad
    | some b => exact ⟨b, mem, actionOf_eq_none_iff.mp (of_decide_eq_true bad)⟩
  · rintro ⟨b, mem, above⟩
    exact ⟨some b, mem, decide_eq_true (actionOf_eq_none_iff.mpr above)⟩

theorem SetAttentionReq.clamps_iff {q : SetAttentionReq} : SetAttentionReq.clamps q = true ↔
    (∃ b, q.threshold = some b ∧ 7 < b.toNat) ∨ ∃ b, some b ∈ q.levels ∧ 7 < b.toNat := by
  simp only [SetAttentionReq.clamps, List.any_eq_true]
  constructor
  · rintro ⟨x, mem, above⟩
    cases x with
    | none => cases above
    | some b =>
      obtain e | mem := List.mem_cons.mp mem
      · exact .inl ⟨b, e.symm, of_decide_eq_true above⟩
      · exact .inr ⟨b, mem, of_decide_eq_true above⟩
  · rintro (⟨b, e, above⟩ | ⟨b, mem, above⟩)
    · exact ⟨some b, List.mem_cons.mpr (.inl e.symm), decide_eq_true above⟩
    · exact ⟨some b, List.mem_cons_of_mem _ mem, decide_eq_true above⟩

/-- An item that a list carries is one of its members. -/
theorem mem_of_itemOf {items : List (Option Byte)} {i : Fin 16} {b : Byte} (h : itemOf items i = some b) :
    some b ∈ items := by
  unfold itemOf at h
  rw [List.getD_eq_getElem?_getD] at h
  cases e : items[i.val]? with
  | none => simp [e] at h
  | some x =>
    rw [e] at h
    exact (show x = some b from h) ▸ List.mem_of_getElem? e

theorem exec_setAttention {q : SetAttentionReq} {s : State} (awaited : s.awaits (.setAttention q) = true)
    (listed : q.unlisted = 0) : exec (.setAttention q) s = .next (if badAction q.actions then s.respond ⟨.range, []⟩ else
      { s with att := SetAttentionReq.apply q s.att }.respond (accepted (SetAttentionReq.clamps q))) := by
  refine (complete_of_awaits awaited _).trans ?_
  rw [setAttention, if_neg (not_not.mpr listed)]
  split <;> rfl

section
variable (q : SetAttentionReq)

theorem SetAttentionReq.apply_threshold (a : Attention) :
    (SetAttentionReq.apply q a).threshold = (q.threshold.map fun b => min 7 b.toNat).getD a.threshold := by
  unfold SetAttentionReq.apply
  cases q.threshold <;> rfl

theorem SetAttentionReq.source_raised (i : Fin 16) (x : Source) : (SetAttentionReq.source q i x).raised = x.raised := rfl

theorem SetAttentionReq.source_level (i : Fin 16) (x : Source) : (SetAttentionReq.source q i x).level =
    ((itemOf q.levels i).map fun b => min 7 b.toNat).getD x.level := by
  unfold SetAttentionReq.source
  cases itemOf q.levels i <;> rfl

theorem SetAttentionReq.source_action_of_absent {i : Fin 16} (h : itemOf q.actions i = none) (x : Source) :
    (SetAttentionReq.source q i x).action = x.action := by
  simp [SetAttentionReq.source, h]

theorem SetAttentionReq.source_action_of_present {i : Fin 16} {b : Byte} (h : itemOf q.actions i = some b)
    (named : b.toNat ≤ 2) (x : Source) : (SetAttentionReq.source q i x).action =
      if b = 0 then .none else if b = 1 then .brk else .stop := by
  simp [SetAttentionReq.source, h, actionOf_eq named]

end

/-! ### ACKNOWLEDGE (R156) -/

/-- Source `i` once its turn in an acknowledgement of `set` is taken, where its raising breaks nothing. -/
def State.reraised (s : State) (set : BitVec 16) (i : Fin 16) : Source :=
  if set.getLsbD i.val then
    match s.conditionDetail i with
    | none => s.source i
    | some d => (s.source i).raise d
  else s.source i

theorem State.reraised_of_unnamed {s : State} {set : BitVec 16} {i : Fin 16} (h : set.getLsbD i.val = false) :
    s.reraised set i = s.source i := if_neg (Bool.eq_false_iff.mp h)

theorem State.reraised_of_quiet {s : State} {set : BitVec 16} {i : Fin 16} (h : s.conditionDetail i = none) :
    s.reraised set i = s.source i := by simp [State.reraised, h]

theorem State.reraised_of_condition {s : State} {set : BitVec 16} {i : Fin 16} {d : Detail}
    (named : set.getLsbD i.val = true) (h : s.conditionDetail i = some d) :
    s.reraised set i = (s.source i).raise d := by simp [State.reraised, named, h]

theorem State.reraised_settings (s : State) (set : BitVec 16) (i : Fin 16) :
    (s.reraised set i).level = (s.source i).level ∧ (s.reraised set i).action = (s.source i).action := by
  unfold State.reraised
  split
  · split <;> exact ⟨rfl, rfl⟩
  · exact ⟨rfl, rfl⟩

/-- The raisings of the condition sources break no running pass (R150). -/
def State.Unbreaking (s : State) : Prop :=
  s.trav.ctl ≠ .running ∨ ∀ i : Fin 16, i.val < 4 ∨ i = 6 → (s.source i).action = .none

/-- A condition is one of a condition source (R146). -/
theorem State.source_of_condition {s : State} {i : Fin 16} (h : s.conditionDetail i ≠ none) : i.val < 4 ∨ i = 6 :=
  (State.condition_iff.mp h).imp (fun ⟨c, e, _⟩ => e ▸ c.isLt) And.left

theorem State.raiseAgain_eq {s : State} (unbreaking : s.Unbreaking) (set : BitVec 16) (i : Fin 16) :
    s.raiseAgain set i = s.setSource i (s.reraised set i) := by
  have same : s.setSource i (s.source i) = s := by simp [State.setSource, State.source]
  unfold State.raiseAgain State.reraised
  split
  · cases h : s.conditionDetail i with
    | none => exact same.symm
    | some d =>
      have own := State.conditionDetail_source h
      subst own
      refine State.raise_eq_note (unbreaking.symm.imp_left fun quiet => quiet _ ?_)
      exact State.source_of_condition (by rw [h]; exact Option.some_ne_none d)
  · exact same.symm

/-- From `s` to `t` the sources of a list have taken their turns in an acknowledgement, and nothing else has changed. -/
structure State.Reraises (s t : State) (set : BitVec 16) (xs : List (Fin 16)) : Prop where
  frame : t = { s with att := t.att }
  threshold : t.att.threshold = s.att.threshold
  source : ∀ i, t.source i = if i ∈ xs then s.reraised set i else s.source i

theorem State.reraises_foldl {s : State} (unbreaking : s.Unbreaking) (set : BitVec 16) {xs : List (Fin 16)}
    (nodup : xs.Nodup) : s.Reraises (xs.foldl (State.raiseAgain set) s) set xs := by
  induction xs generalizing s with
  | nil => exact ⟨rfl, rfl, fun i => by simp⟩
  | cons j xs ih =>
    obtain ⟨fresh, nodup⟩ := List.nodup_cons.mp nodup
    rw [List.foldl_cons, State.raiseAgain_eq unbreaking]
    set u := s.setSource j (s.reraised set j)
    have other : ∀ i, i ≠ j → u.source i = s.source i := fun i h => s.source_setSource_ne _ h
    have own : u.source j = s.reraised set j := s.source_setSource_self j _
    have unbreaking' : u.Unbreaking := unbreaking.imp_right fun quiet i hi => by
      by_cases h : i = j
      · subst h
        rw [own, (s.reraised_settings set i).2, quiet i hi]
      · rw [other i h, quiet i hi]
    have rest := ih unbreaking' nodup
    refine ⟨rest.frame, rest.threshold, fun i => ?_⟩
    rw [rest.source i]
    by_cases h : i = j
    · subst h
      rw [if_neg fresh, if_pos List.mem_cons_self, own]
    · have same : u.reraised set i = s.reraised set i := by
        unfold State.reraised
        rw [other i h]
        rfl
      simp only [List.mem_cons, h, false_or, same, other i h]

/-- The sources of a set once they are cleared and their conditions seen to (R156). -/
theorem acknowledge_spec {s : State} (unbreaking : s.Unbreaking) (set : BitVec 16) :
    (acknowledge set s).1 = { s with att := (acknowledge set s).1.att } ∧
      (acknowledge set s).1.att.threshold = s.att.threshold ∧
      ∀ i, (acknowledge set s).1.source i = (s.clearSources set).reraised set i := by
  have unbreaking' : (s.clearSources set).Unbreaking := unbreaking.imp_right fun quiet i hi => by
    rw [State.clearSources_source, apply_ite Source.action, ite_self, quiet i hi]
  have again := State.reraises_foldl unbreaking' set (List.nodup_finRange 16)
  exact ⟨again.frame, again.threshold, fun i => (again.source i).trans (if_pos (List.mem_finRange i))⟩

section
variable {s : State} {set : BitVec 16} {i : Fin 16}

theorem State.cleared_reraised_of_unnamed (h : set.getLsbD i.val = false) :
    (s.clearSources set).reraised set i = s.source i := by
  rw [State.reraised_of_unnamed h, State.clearSources_source, if_neg (Bool.eq_false_iff.mp h)]

variable (named : set.getLsbD i.val = true)

include named

theorem State.cleared_source : (s.clearSources set).source i = { s.source i with raised := none } := by
  rw [State.clearSources_source, if_pos named]

theorem State.cleared_reraised_settings : ((s.clearSources set).reraised set i).level = (s.source i).level ∧
    ((s.clearSources set).reraised set i).action = (s.source i).action := by
  have settings := (s.clearSources set).reraised_settings set i
  rwa [State.cleared_source named] at settings

theorem State.cleared_reraised_of_quiet (h : s.conditionDetail i = none) :
    ((s.clearSources set).reraised set i).raised = none := by
  rw [State.reraised_of_quiet (s := s.clearSources set) h, State.cleared_source named]

theorem State.cleared_reraised_of_condition {d : Detail} (h : s.conditionDetail i = some d) :
    ((s.clearSources set).reraised set i).raised = some ⟨1, d⟩ := by
  rw [State.reraised_of_condition (s := s.clearSources set) named h, Source.raise_raised, State.cleared_source named]
  rfl

end

/-- Settles O54: SET_ATTENTION by the source that it leaves; ACKNOWLEDGE by the condition of each source of its set. -/
theorem attentionRequestsActOnTheirSources : Obligations.AttentionRequestsActOnTheirSources := by
  constructor
  · intro q s awaited listed item
    refine ⟨fun bad => by rw [exec_setAttention awaited listed, if_pos (badAction_iff.mpr bad)], fun named => ?_⟩
    have good : ¬badAction q.actions = true := fun bad => by
      obtain ⟨b, mem, above⟩ := badAction_iff.mp bad
      exact absurd (named b mem) (not_le.mpr above)
    have source : ∀ i : Fin 16, (SetAttentionReq.apply q s.att).sources[i] = SetAttentionReq.source q i (s.source i) :=
      SetAttentionReq.apply_source q s.att
    refine ⟨_, if SetAttentionReq.clamps q then .clamped else .ok, by rw [exec_setAttention awaited listed, if_neg good],
      (ite_eq_or_eq _ _ _).symm, ?_, rfl, SetAttentionReq.apply_threshold q s.att,
      fun i => ⟨?_, ?_, fun absent => ?_, fun b present => ?_⟩⟩
    · rw [← SetAttentionReq.clamps_iff]
      simp
    · exact (congrArg Source.raised (source i)).trans (SetAttentionReq.source_raised q i _)
    · exact (congrArg Source.level (source i)).trans (SetAttentionReq.source_level q i _)
    · exact (congrArg Source.action (source i)).trans (SetAttentionReq.source_action_of_absent q absent _)
    · exact (congrArg Source.action (source i)).trans
        (SetAttentionReq.source_action_of_present q present (named b (mem_of_itemOf present)) _)
  · intro set s awaited unbreaking
    obtain ⟨frame, threshold, source⟩ := acknowledge_spec unbreaking set
    refine ⟨(acknowledge set s).1.respond (accepted false), complete_of_awaits awaited _,
      congrArg (State.respond · (accepted false)) frame, threshold,
      fun i unnamed => (source i).trans (State.cleared_reraised_of_unnamed unnamed), fun i named => ?_⟩
    rw [show ((acknowledge set s).1.respond (accepted false)).source i = _ from source i]
    obtain ⟨level, action⟩ := State.cleared_reraised_settings (s := s) named
    refine ⟨level, action, fun c hi lost => ?_, fun c hi kept => ?_, fun six stale => ?_, fun six fresh => ?_,
      fun above other => ?_⟩
    · exact State.cleared_reraised_of_condition named ((State.conditionDetail_channel hi).trans (if_pos lost))
    · exact State.cleared_reraised_of_quiet named ((State.conditionDetail_channel hi).trans (if_neg kept))
    · subst six
      rw [← Comp.staleDetail_eq]
      exact State.cleared_reraised_of_condition named (State.conditionDetail_environment.trans (if_pos stale))
    · subst six
      exact State.cleared_reraised_of_quiet named
        (State.conditionDetail_environment.trans (if_neg (Bool.eq_false_iff.mp fresh)))
    · exact State.cleared_reraised_of_quiet named (State.conditionDetail_of_other above other)

end Sys2Proof.Machine

namespace Sys2Proof.Machine

/-! ### The CRC of the link (R164) -/

/-- The register stepped `n` times is the step iterated. -/
theorem crcSteps_eq_iterate (n : ℕ) (reg : Byte) : crcSteps n reg = crcStep^[n] reg := by
  induction n generalizing reg with
  | zero => rfl
  | succ n ih => rw [crcSteps, ih, Function.iterate_succ_apply]

/-- One byte more takes the register one byte on. -/
theorem crc_append_singleton (bs : List Byte) (b : Byte) : crc (bs ++ [b]) = crcByte (crc bs) b := by
  rw [crc, List.foldl_append]
  rfl

/-- A byte equal to the register clears it, and a clear register stays clear. -/
theorem crcByte_self (reg : Byte) : crcByte reg reg = 0x00#8 := by
  rw [crcByte, BitVec.xor_self]
  decide

theorem badCrc_iff {f : Frame} :
    f.badCrc = true ↔ f.crcByte ≠ crc (f.code :: BitVec.ofNat 8 f.lengthByte :: f.payload) := by
  rw [Frame.badCrc, bne_iff_ne, ne_comm]

/-- Settles O11: the byte's step is the register's step iterated, and the CRC byte meets a register of its own value. -/
theorem crcFollowsItsPolynomial : Obligations.CrcFollowsItsPolynomial := by
  unfold Obligations.CrcFollowsItsPolynomial
  intro stepped
  have byte (reg b : Byte) : crcByte reg b = stepped^[8] (reg ^^^ b) := crcSteps_eq_iterate 8 _
  refine ⟨rfl, fun bs b => ?_, fun bs => ?_, fun f => badCrc_iff, fun r => rfl⟩
  · rw [crc_append_singleton, byte]
  · rw [crc_append_singleton, crcByte_self]

end Sys2Proof.Machine

namespace Sys2Proof.Machine

/-! ### Transactions (R159, R161, R166, R174 to R176) -/

theorem State.transaction_of_footing {s : State} (high : s.rstnLow = false) (footing : s.port.footing = true)
    (judge : State → State) : s.transaction judge = judge s := by
  simp [State.transaction, high, footing]

/-- Without footing a transaction is not judged: its end gives footing where RSTN is high (R176). -/
theorem State.transaction_of_not_footing {s : State} (footing : s.port.footing = false) (judge : State → State) :
    s.transaction judge = if s.rstnLow then s else s.gainFooting := by
  simp [State.transaction, footing]

theorem requestFrameOk_cons {b : Byte} (nonzero : b ≠ 0) (bs : List Byte) {tail : ℕ} (ht : tail < 8) :
    requestFrameOk (b :: bs) tail = true := by
  rw [requestFrameOk, Bool.and_eq_true, decide_eq_true_eq, bne_iff_ne]
  exact ⟨nonzero, ht⟩

theorem exec_requestFrame {b : Byte} (nonzero : b ≠ 0) (bs : List Byte) {tail : ℕ} (ht : tail < 8) (s : State) :
    exec (.requestFrame (b :: bs) tail) s = .next (s.transaction fun s =>
      (s.drive (List.replicate (bs.length + 1) 0xFF#8)).offerFrame (frameOf (b :: bs) tail)) :=
  congrArg _ (if_pos (requestFrameOk_cons nonzero bs ht))

/-- A request frame of a port with footing is offered, with FFh driven during its bytes (R159, R161). -/
theorem exec_requestFrame_of_footing {b : Byte} (nonzero : b ≠ 0) (bs : List Byte) {tail : ℕ} (ht : tail < 8) {s : State}
    (high : s.rstnLow = false) (footing : s.port.footing = true) :
    exec (.requestFrame (b :: bs) tail) s =
      .next ((s.drive (List.replicate (bs.length + 1) 0xFF#8)).offerFrame (frameOf (b :: bs) tail)) := by
  rw [exec_requestFrame nonzero bs ht, State.transaction_of_footing high footing]

/-- A port without a request in process takes the frame (R161). -/
theorem State.offerFrame_of_free {s : State} (free : s.port.link = .empty ∨ ∃ r, s.port.link = .holding r) (f : Frame) :
    s.offerFrame f = s.acceptFrame f := by
  obtain e | ⟨r, e⟩ := free <;> rw [State.offerFrame, e]

theorem State.offerFrame_of_processing {s : State} {g : Frame} (busy : s.port.link = .processing g) (f : Frame) :
    s.offerFrame f = s.raise (.linkFault .overrun f.code) := by
  rw [State.offerFrame, busy]

theorem State.offerFrame_of_resetting {s : State} (reset : s.port.link = .resetting) (f : Frame) :
    s.offerFrame f = s := by
  rw [State.offerFrame, reset]

theorem State.acceptFrame_of_request {s : State} {f : Frame} (request : completionOf f ≠ .resetPart) :
    s.acceptFrame f = { s with port := { s.port with link := .processing f } } := if_neg request

theorem State.acceptFrame_of_resetPart {s : State} {f : Frame} (reset : completionOf f = .resetPart) :
    s.acceptFrame f = s.resetBegin := if_pos reset

/-- A frame of any request but RESET_PART is in process once it is accepted (R161). -/
theorem exec_requestFrame_accepted {b : Byte} (nonzero : b ≠ 0) (bs : List Byte) {tail : ℕ} (ht : tail < 8) {s : State}
    (high : s.rstnLow = false) (footing : s.port.footing = true)
    (free : s.port.link = .empty ∨ ∃ r, s.port.link = .holding r)
    (request : completionOf (frameOf (b :: bs) tail) ≠ .resetPart) :
    exec (.requestFrame (b :: bs) tail) s = .next { s with
      port := ⟨true, .processing (frameOf (b :: bs) tail), List.replicate (bs.length + 1) 0xFF#8⟩ } := by
  rw [exec_requestFrame_of_footing nonzero bs ht high footing, State.offerFrame_of_free (by exact free),
    State.acceptFrame_of_request request, ← footing]
  rfl

/-- Settles O5: the acceptance is `State.resetBegin` on the driven part, and the completion is `State.softReset`. -/
theorem resetPartKeepsTheRecords : Obligations.ResetPartKeepsTheRecords := by
  refine ⟨fun b bs s high footing nonzero free reset => ?_, fun s resetting => ?_⟩
  · rw [exec_requestFrame_of_footing nonzero bs (by norm_num) high footing, State.offerFrame_of_free (by exact free),
      State.acceptFrame_of_resetPart reset, ← footing]
    rfl
  · exact congrArg _ (if_pos (decide_eq_true resetting))

/-- Settles O7: the frame is judged by the state of the port, and without footing no transaction is judged. -/
theorem transactionsNeedTheirFooting : Obligations.TransactionsNeedTheirFooting := by
  refine ⟨fun b bs tail s high footing nonzero ht => ?_, fun b bs tail n bits s nonzero ht footing => ?_⟩
  · refine ⟨fun free request => exec_requestFrame_accepted nonzero bs ht high footing free request, fun g busy => ?_,
      fun reset => ?_⟩
    · rw [exec_requestFrame_of_footing nonzero bs ht high footing, State.offerFrame_of_processing (by exact busy)]
      rfl
    · rw [exec_requestFrame_of_footing nonzero bs ht high footing, State.offerFrame_of_resetting (by exact reset)]
      rfl
  · refine ⟨?_, congrArg _ (State.transaction_of_not_footing footing _),
      congrArg _ (State.transaction_of_not_footing footing _)⟩
    rw [exec_requestFrame nonzero bs ht, State.transaction_of_not_footing footing]
    rfl

/-! ### FETCH (R166) -/

theorem exec_fetch_of_footing {s : State} (high : s.rstnLow = false) (footing : s.port.footing = true) (n : ℕ) :
    exec (.fetch n) s = .next (s.drive (fetchBytes s.fetched n)) :=
  congrArg _ (State.transaction_of_footing high footing _)

theorem State.fetched_of_holding {s : State} {r : Response} (held : s.port.link = .holding r) : s.fetched = r := by
  rw [State.fetched, held]

/-- Where the slot holds no response, the answer is NOT_READY (R166). -/
theorem State.fetched_of_not_holding {s : State} (free : ∀ r, s.port.link ≠ .holding r) : s.fetched = .bare .notReady := by
  unfold State.fetched
  split
  · next r held => exact absurd held (free r)
  · rfl

/-- The CRC of NOT_READY's status and length, byte by byte (R166). -/
theorem notReady_bytes : (Response.bare .notReady).bytes = [0x02#8, 0x00#8, 0x45#8] := by
  have status : crcByte 0xFF#8 0x02#8 = 0x1C#8 := by decide
  have length : crcByte 0x1C#8 0x00#8 = 0x45#8 := by decide
  have sum : crc [0x02#8, 0x00#8] = 0x45#8 := by
    rw [crc, List.foldl_cons, List.foldl_cons, List.foldl_nil, status, length]
  exact congrArg (fun byte => [0x02#8, 0x00#8, byte]) sum

/-- Settles O8: what a fetch drives is the bytes of the response fixed at its first byte. -/
theorem fetchDrivesTheResponse : Obligations.FetchDrivesTheResponse := by
  refine ⟨fun n s high footing => ⟨fun r held => ?_, fun free => ?_⟩, fun bits s short footing => ?_⟩
  · rw [exec_fetch_of_footing high footing, State.fetched_of_holding held]
    rfl
  · rw [exec_fetch_of_footing high footing, State.fetched_of_not_holding free, fetchBytes, notReady_bytes]
    rfl
  · cases high : s.rstnLow with
    | false => exact congrArg _ (State.transaction_of_footing high footing id)
    | true => exact congrArg _ (if_pos high)

/-! ### FRAME_ERROR and UNKNOWN (R162, R163) -/

theorem badLength_iff {f : Frame} :
    f.badLength = true ↔ f.tail ≠ 0 ∨ f.count < 3 ∨ 96 < f.lengthByte ∨ f.count ≠ f.lengthByte + 3 := by
  simp only [Frame.badLength, Bool.or_eq_true, decide_eq_true_eq, or_assoc]
  rfl

theorem badLength_eq_false {f : Frame}
    (h : f.tail = 0 ∧ 3 ≤ f.count ∧ f.lengthByte ≤ 96 ∧ f.count = f.lengthByte + 3) : f.badLength = false := by
  rw [Bool.eq_false_iff, ne_eq, badLength_iff]
  omega

/-- The command that completes a frame of sound length and CRC, by what its code and payload make (R163). -/
def completionOfParsed : Parsed → Instr
  | .unknown => .unknown
  | .badLength => .frameError
  | .request i => i

/-- A frame of sound length and CRC is judged by its code and its payload alone (R162, R163). -/
theorem completionOf_of_sound {f : Frame} (length : f.badLength = false) (sum : f.badCrc = false) :
    completionOf f = completionOfParsed (parsePayload f.code f.payload) := by
  rw [completionOf, length, sum]
  cases parsePayload f.code f.payload <;> rfl

theorem State.frame_of_processing {s : State} {f : Frame} (busy : s.port.link = .processing f) : s.frame = f := by
  rw [State.frame, busy]

/-- A frame in process that is no request's completes with FRAME_ERROR, and raises LINK_FAULT with its reason (R162). -/
theorem exec_frameError {s : State} {f : Frame} (busy : s.port.link = .processing f) (bad : completionOf f = .frameError) :
    exec .frameError s =
      .next ((s.raise (.linkFault (frameErrorReason f) f.code)).respond ⟨.frameError, []⟩) := by
  refine (complete_of_awaits (State.awaits_iff.mpr ⟨f, busy, bad⟩) frameError).trans ?_
  rw [frameError, State.frame_of_processing busy]
  rfl

/-- Settles O9: the checks of a frame in their order, each with its reason. -/
theorem badFramesCompleteWithoutARequest : Obligations.BadFramesCompleteWithoutARequest := by
  refine ⟨fun f s busy malformed => ?_, fun f s busy formed differs => ?_, fun f s busy formed same => ?_⟩
  · have length : f.badLength = true := badLength_iff.mpr malformed
    rw [exec_frameError busy (if_pos length), frameErrorReason, if_pos length]
  · have length : f.badLength = false := badLength_eq_false formed
    have sum : f.badCrc = true := badCrc_iff.mpr differs.symm
    rw [exec_frameError busy (by simp [completionOf, sum]), frameErrorReason, length, sum]
    rfl
  · have length : f.badLength = false := badLength_eq_false formed
    have sum : f.badCrc = false := Bool.eq_false_iff.mpr fun bad => badCrc_iff.mp bad same.symm
    refine ⟨fun payload => ?_, fun code => ?_⟩
    · rw [exec_frameError busy (by rw [completionOf_of_sound length sum, payload, completionOfParsed]), frameErrorReason,
        length, sum]
      rfl
    · have completes : completionOf f = .unknown := by rw [completionOf_of_sound length sum, code, completionOfParsed]
      exact complete_of_awaits (State.awaits_iff.mpr ⟨f, busy, completes⟩) _

end Sys2Proof.Machine

namespace Sys2Proof.Machine

/-! ### Requests refused by their form (R163 check 3) -/

/-- A completion that refuses leaves its response and nothing else (R173). -/
theorem complete_refuses {i : Instr} {s : State} {f : State → State × Response} {st : Status} (awaited : s.awaits i = true)
    (refused : f s = refuse st s) : complete i f s = .next (s.respond ⟨st, []⟩) := by
  rw [complete_of_awaits awaited, refused]
  rfl

/-- A channel number outside 0..3 names no channel. -/
theorem onChannel_of_outside {b : Byte} (outside : 4 ≤ b.toNat) (f : Fin 4 → State → State × Response) (s : State) :
    onChannel b f s = refuse .range s := by
  rw [onChannel, channelOf_eq_none.mpr outside]

/-- Settles O14: the presence flags are the first check of each of these requests, and the channel number the next. -/
theorem unlistedFlagsAndChannelsAreRefused : Obligations.UnlistedFlagsAndChannelsAreRefused := by
  refine ⟨fun s => ?_, fun ch s outside => ?_⟩
  · exact ⟨fun q awaited flag => complete_refuses awaited (if_pos flag),
      fun q awaited flag => complete_refuses awaited (if_pos flag),
      fun q awaited flag => complete_refuses awaited (if_pos flag),
      fun q awaited flag => complete_refuses awaited (if_pos flag),
      fun q awaited flag => complete_refuses awaited (if_pos flag),
      fun q awaited flag => complete_refuses awaited (if_pos flag),
      fun q awaited flag => complete_refuses awaited (if_pos flag),
      fun nu u awaited flag => complete_refuses awaited (if_pos flag),
      fun q awaited flag => complete_refuses awaited (if_pos flag),
      fun l u awaited flag => complete_refuses awaited (if_pos flag),
      fun u awaited flag => complete_refuses awaited (if_pos flag)⟩
  · have refused := fun f => onChannel_of_outside outside f s
    refine ⟨fun q hq listed awaited => complete_refuses awaited ((if_neg (not_not.mpr listed)).trans ?_),
      fun q hq awaited => complete_refuses awaited (hq ▸ refused _),
      fun q hq listed awaited => complete_refuses awaited ((if_neg (not_not.mpr listed)).trans ?_),
      fun awaited => complete_refuses awaited (refused _), fun awaited => complete_refuses awaited (refused _),
      fun v awaited => complete_refuses awaited (refused _), fun k awaited => complete_refuses awaited (refused _),
      fun awaited => complete_refuses awaited (refused _)⟩
    · exact hq ▸ refused _
    · exact hq ▸ refused _

end Sys2Proof.Machine

namespace Sys2Proof.Machine

/-! ### What a request answers (R168, R169, R173) -/

/-- The statuses with which a completion refuses its request (R172). -/
def refusals : List Status := [.range, .conflict, .state, .full, .exists, .overlap, .absent, .occupied, .busy]

/-- The effects and answer of a request: it is accepted with OK or CLAMPED, or it is refused and has no effect. -/
inductive State.Answers (s : State) : State × Response → Prop where
  | accepted {t : State} {r : Response} (status : r.status = .ok ∨ r.status = .clamped) : s.Answers (t, r)
  | refused {r : Response} (status : r.status ∈ refusals) : s.Answers (s, r)

namespace State

/-- A completion never answers with a status of the port's own (R172). -/
theorem Answers.status_ne {s : State} {a : State × Response} (h : s.Answers a) :
    a.2.status ≠ .notReady ∧ a.2.status ≠ .frameError ∧ a.2.status ≠ .unknown := by
  have apart : ∀ st ∈ refusals, st ≠ .notReady ∧ st ≠ .frameError ∧ st ≠ .unknown := by decide
  cases h with
  | accepted status => obtain e | e := status <;> simp [e]
  | refused status => exact apart _ status

/-- A refusal has no effect (R173). -/
theorem Answers.state_eq {s : State} {a : State × Response} (h : s.Answers a) (ok : a.2.status ≠ .ok)
    (clamped : a.2.status ≠ .clamped) : a.1 = s := by
  cases h with
  | accepted status => exact absurd status (not_or.mpr ⟨ok, clamped⟩)
  | refused => rfl

section
variable {s : State}

theorem answers_refuse {st : Status} (refusal : st ∈ refusals := by decide) : s.Answers (refuse st s) := .refused refusal

theorem answers_accepted {t : State} {clamped : Bool} : s.Answers (t, Machine.accepted clamped) :=
  .accepted (by cases clamped <;> simp [Machine.accepted, Response.bare])

theorem answers_image {bs : List Byte} : s.Answers (image bs s) := .accepted (.inl rfl)

/-- A check before the rest of a request. -/
theorem answers_check {p : Prop} [Decidable p] {st : Status} {a : State × Response} (h : s.Answers a)
    (refusal : st ∈ refusals := by decide) : s.Answers (if p then refuse st s else a) := by
  split
  · exact .refused refusal
  · exact h

theorem answers_onChannel {b : Byte} {f : Fin 4 → State → State × Response} (h : ∀ c, s.Answers (f c s)) :
    s.Answers (onChannel b f s) := by
  unfold onChannel
  split
  · exact answers_refuse
  · exact h _

theorem answers_onRecord {l : ℕ} {f : LineRec → State → State × Response} (h : ∀ r, s.Answers (f r s)) :
    s.Answers (onRecord l f s) := by
  unfold onRecord
  split
  · exact answers_refuse
  · exact h _

end

/-! ### The checks of each request, in their order -/

variable (s : State)

theorem answers_setChannel (q : SetChannelReq) : s.Answers (setChannel q s) := by
  refine answers_check (answers_onChannel fun c => answers_check ?_)
  split
  · exact answers_refuse
  · refine answers_check ?_
    split
    · exact answers_accepted
    · exact answers_refuse

theorem answers_setMonitor (q : SetMonitorReq) : s.Answers (setMonitor q s) :=
  answers_check (answers_onChannel fun _ => answers_accepted)

theorem answers_setCompensation (q : SetCompensationReq) : s.Answers (setCompensation q s) := by
  refine answers_check ?_
  split
  · exact answers_check answers_accepted
  · exact answers_refuse

theorem answers_setDetector (q : SetDetectorReq) : s.Answers (setDetector q s) := by
  refine answers_check ?_
  split
  · exact answers_refuse
  · exact answers_check answers_accepted

theorem answers_setTraverse (q : SetTraverseReq) : s.Answers (setTraverse q s) :=
  answers_check (answers_check answers_accepted)

theorem answers_setAttention (q : SetAttentionReq) : s.Answers (setAttention q s) :=
  answers_check (answers_check answers_accepted)

theorem answers_channelOn (b : Byte) : s.Answers (onChannel b channelOnAt s) :=
  answers_onChannel fun _ => answers_check answers_accepted

theorem answers_channelOff (b : Byte) : s.Answers (onChannel b channelOffAt s) :=
  answers_onChannel fun _ => answers_check answers_accepted

theorem answers_preset (b : Byte) (value : ℤ) : s.Answers (onChannel b (presetAt value) s) :=
  answers_onChannel fun _ => answers_check (answers_check (answers_check answers_accepted))

theorem answers_probe (b : Byte) (k : ℕ) : s.Answers (onChannel b (probeAt k) s) :=
  answers_onChannel fun _ => answers_check (answers_check answers_accepted)

theorem answers_putEnvironment (q : PutEnvironmentReq) : s.Answers (putEnvironment q s) :=
  answers_check answers_accepted

theorem answers_anchorTracker (nu : Option (BitVec 32)) (unlisted : BitVec 7) :
    s.Answers (anchorTracker nu unlisted s) := by
  refine answers_check ?_
  split
  · exact answers_refuse
  · refine answers_check (answers_check ?_)
    split <;> exact answers_check answers_accepted

theorem answers_endPassRequest : s.Answers (endPassRequest s) := by
  unfold endPassRequest
  split
  · exact answers_accepted
  · exact answers_refuse

theorem answers_insertRecord (q : InsertReq) : s.Answers (insertRecord q s) := by
  unfold insertRecord
  split
  · exact answers_check (answers_check (answers_check answers_accepted))
  · exact answers_refuse

theorem answers_changeRecord (q : ChangeReq) : s.Answers (changeRecord q s) :=
  answers_check (answers_onRecord fun _ =>
    answers_check (answers_check (answers_check (answers_check answers_accepted))))

theorem answers_setRecordState (l : ℕ) (state : Byte) : s.Answers (onRecord l (setRecordStateOn state) s) := by
  refine answers_onRecord fun r => ?_
  unfold setRecordStateOn
  split
  · exact answers_refuse
  · exact answers_check answers_accepted

theorem answers_findPosition (p : ℤ) : s.Answers (findPosition p s) := by
  refine answers_check ?_
  split
  · exact answers_image
  · split
    · exact answers_image
    · exact answers_refuse

/-- The end marker is a refusal with a payload (R91, R178). -/
theorem answers_readNext (filter : Byte) : s.Answers (readNext filter s) := by
  refine answers_check ?_
  split
  · exact .refused (by decide)
  · exact .accepted (.inl rfl)

end State

/-! ### Every request -/

/-- Every request but RESET_PART completes where it is awaited, with effects and an answer that are of one of the two kinds. -/
theorem exec_request {i : Instr} (request : i.isRequest = true) (other : i ≠ .resetPart) :
    ∃ f, (∀ s, exec i s = complete i f s) ∧ ∀ s : State, s.Answers (f s) := by
  cases i with
  | resetPart => exact absurd rfl other
  | setChannel q => exact ⟨_, fun _ => rfl, fun s => s.answers_setChannel q⟩
  | setQuadrature q => exact ⟨_, fun _ => rfl, fun s => State.answers_onChannel fun _ => State.answers_accepted⟩
  | setMonitor q => exact ⟨_, fun _ => rfl, fun s => s.answers_setMonitor q⟩
  | setCompensation q => exact ⟨_, fun _ => rfl, fun s => s.answers_setCompensation q⟩
  | setDetector q => exact ⟨_, fun _ => rfl, fun s => s.answers_setDetector q⟩
  | setTraverse q => exact ⟨_, fun _ => rfl, fun s => s.answers_setTraverse q⟩
  | setAttention q => exact ⟨_, fun _ => rfl, fun s => s.answers_setAttention q⟩
  | channelOn ch => exact ⟨_, fun _ => rfl, fun s => s.answers_channelOn ch⟩
  | channelOff ch => exact ⟨_, fun _ => rfl, fun s => s.answers_channelOff ch⟩
  | preset ch value => exact ⟨_, fun _ => rfl, fun s => s.answers_preset ch _⟩
  | home => exact ⟨_, fun _ => rfl, fun s => State.answers_check State.answers_accepted⟩
  | putEnvironment q => exact ⟨_, fun _ => rfl, fun s => s.answers_putEnvironment q⟩
  | anchorTracker nu unlisted => exact ⟨_, fun _ => rfl, fun s => s.answers_anchorTracker nu unlisted⟩
  | startPlan count => exact ⟨_, fun _ => rfl, fun s => State.answers_check State.answers_accepted⟩
  | stopPlan => exact ⟨_, fun _ => rfl, fun s => State.answers_check State.answers_accepted⟩
  | endPass => exact ⟨_, fun _ => rfl, fun s => s.answers_endPassRequest⟩
  | probe ch k => exact ⟨_, fun _ => rfl, fun s => s.answers_probe ch _⟩
  | insertRecord q => exact ⟨_, fun _ => rfl, fun s => s.answers_insertRecord q⟩
  | changeRecord q => exact ⟨_, fun _ => rfl, fun s => s.answers_changeRecord q⟩
  | retireRecord label => exact ⟨_, fun _ => rfl, fun s => State.answers_onRecord fun _ => State.answers_accepted⟩
  | setRecordState label state => exact ⟨_, fun _ => rfl, fun s => s.answers_setRecordState _ state⟩
  | clearResults label unlisted =>
    exact ⟨_, fun _ => rfl, fun s =>
      State.answers_check (State.answers_onRecord fun _ => State.answers_accepted)⟩
  | clearResultsAll unlisted => exact ⟨_, fun _ => rfl, fun s => State.answers_check State.answers_accepted⟩
  | readRecord label | readResult label =>
    exact ⟨_, fun _ => rfl, fun s => State.answers_onRecord fun _ => State.answers_image⟩
  | findPosition p => exact ⟨_, fun _ => rfl, fun s => s.answers_findPosition _⟩
  | seek p => exact ⟨_, fun _ => rfl, fun s => State.answers_check State.answers_accepted⟩
  | readNext filter => exact ⟨_, fun _ => rfl, fun s => s.answers_readNext filter⟩
  | readInterval a b =>
    exact ⟨_, fun _ => rfl, fun s =>
      State.answers_onRecord fun _ => State.answers_onRecord fun _ => State.answers_image⟩
  | readChannel ch => exact ⟨_, fun _ => rfl, fun s => State.answers_onChannel fun _ => State.answers_image⟩
  | readCompensation | readTraverse | readProbe | readAttention =>
    exact ⟨_, fun _ => rfl, fun s => State.answers_image⟩
  | acknowledge set => exact ⟨_, fun _ => rfl, fun s => State.answers_accepted⟩
  | _ => cases request

/-- Settles O13: a completion places the answer of its request in the slot, and a refusal hands on the state it found. -/
theorem everyRequestEndsInOneResponse : Obligations.EveryRequestEndsInOneResponse := by
  refine ⟨fun i s request other => ?_, fun i s t r request other awaited e held ok clamped => ?_⟩ <;>
    obtain ⟨f, run, answers⟩ := exec_request request other
  · refine ⟨fun awaited => ?_, fun idle => (run s).trans (complete_of_not_awaits idle f)⟩
    exact ⟨_, _, (run s).trans (complete_of_awaits awaited f), rfl, (answers s).status_ne⟩
  · rw [run s, complete_of_awaits awaited] at e
    cases e
    cases held
    rw [(answers s).state_eq ok clamped]
    rfl

end Sys2Proof.Machine

namespace Sys2Proof

/-! ### Numbers read back from the link (R177) -/

theorem ofLE_toLE (n v : ℕ) : ofLE (toLE n v) = v % 256 ^ n := by
  induction n generalizing v with
  | zero => simp [toLE, ofLE, Nat.mod_one]
  | succ n ih =>
    rw [toLE, ofLE, ih, pow_succ', Nat.mod_mul]
    rfl

theorem putField_length {w : ℕ} (n : ℕ) (v : BitVec w) : (putField n v).length = n := Machine.toLE_length n _

theorem putOpt_length_le {w : ℕ} (n : ℕ) (v : Option (BitVec w)) : (putOpt n v).length ≤ n := by
  cases v with
  | none => exact Nat.zero_le n
  | some v => exact (putField_length n v).le

/-- A field of no more bits than its bytes hold is read back as it was sent. -/
theorem readField_putField {n w : ℕ} (fits : w ≤ 8 * n) (v : BitVec w) (rest : List Byte) :
    readField n w (putField n v ++ rest) = some (v, rest) := by
  have len := putField_length n v
  have value : ofLE (putField n v) = v.toNat := by
    have wide : 2 ^ w ≤ 256 ^ n := (Nat.pow_le_pow_right two_pos fits).trans_eq (pow_mul 2 8 n)
    rw [putField, ofLE_toLE, Nat.mod_eq_of_lt (v.isLt.trans_le wide)]
  rw [readField, if_pos (by rw [List.length_append]; omega), List.take_left' len, List.drop_left' len, value,
    BitVec.ofNat_toNat, BitVec.setWidth_eq]

/-- An optional field is read back where its flag tells its presence. -/
theorem readOpt_putOpt {n w : ℕ} (fits : w ≤ 8 * n) {v : Option (BitVec w)} {present : Bool} (flag : present = v.isSome)
    (rest : List Byte) : readOpt present n w (putOpt n v ++ rest) = some (v, rest) := by
  subst flag
  cases v with
  | none => rfl
  | some v => exact congrArg (Option.map fun r => (some r.1, r.2)) (readField_putField fits v rest)

/-! The same at the head of a layout, with what the layout goes on to read: a layout takes its payload field by field. -/

section
variable {α : Type} {n w : ℕ}

theorem readField_bind (fits : w ≤ 8 * n) (v : BitVec w) (rest : List Byte) (k : BitVec w × List Byte → Option α) :
    (readField n w (putField n v ++ rest) >>= k) = k (v, rest) := by
  rw [readField_putField fits]
  rfl

theorem readField_bind_nil (fits : w ≤ 8 * n) (v : BitVec w) (k : BitVec w × List Byte → Option α) :
    (readField n w (putField n v) >>= k) = k (v, []) := by
  rw [← List.append_nil (putField n v), readField_bind fits]

theorem readOpt_bind (fits : w ≤ 8 * n) {v : Option (BitVec w)} {present : Bool} (flag : present = v.isSome)
    (rest : List Byte) (k : Option (BitVec w) × List Byte → Option α) :
    (readOpt present n w (putOpt n v ++ rest) >>= k) = k (v, rest) := by
  rw [readOpt_putOpt fits flag]
  rfl

theorem readOpt_bind_nil (fits : w ≤ 8 * n) {v : Option (BitVec w)} {present : Bool} (flag : present = v.isSome)
    (k : Option (BitVec w) × List Byte → Option α) :
    (readOpt present n w (putOpt n v) >>= k) = k (v, []) := by
  rw [← List.append_nil (putOpt n v), readOpt_bind fits flag]

end

/-! ### Flags read back from the link (R177, R179) -/

theorem toNat_packFlags {w m : ℕ} {listed : List Bool} (fits : listed.length + m ≤ w) (unlisted : BitVec m) :
    (packFlags w listed unlisted).toNat = 2 ^ listed.length * unlisted.toNat + bitsToNat listed := by
  have low := Machine.bitsToNat_lt listed
  have high : 2 ^ listed.length * unlisted.toNat + 2 ^ listed.length ≤ 2 ^ (listed.length + m) := by
    rw [pow_add, ← Nat.mul_succ]
    exact Nat.mul_le_mul_left _ unlisted.isLt
  have wide : 2 ^ (listed.length + m) ≤ 2 ^ w := Nat.pow_le_pow_right two_pos fits
  rw [packFlags, BitVec.toNat_ofNat, Nat.mod_eq_of_lt (by omega), add_comm]

theorem testBit_bitsToNat (bs : List Bool) (i : ℕ) : (bitsToNat bs).testBit i = bs.getD i false := by
  rw [Nat.testBit_eq_decide_div_mod_eq, Machine.bitsToNat_div_mod]
  cases bs.getD i false <;> rfl

/-- A listed flag is read back at its bit. -/
theorem getLsbD_packFlags {w m i : ℕ} {listed : List Bool} (fits : listed.length + m ≤ w)
    (inside : i < listed.length) (unlisted : BitVec m) :
    (packFlags w listed unlisted).getLsbD i = listed.getD i false := by
  rw [BitVec.getLsbD, toNat_packFlags fits, Nat.testBit_two_pow_mul_add _ (Machine.bitsToNat_lt listed), if_pos inside,
    testBit_bitsToNat]

@[simp] theorem getElem_packFlags {w m i : ℕ} {listed : List Bool} {h : i < w} (fits : listed.length + m ≤ w)
    (inside : i < listed.length) (unlisted : BitVec m) : (packFlags w listed unlisted)[i] = listed.getD i false := by
  rw [← BitVec.getLsbD_eq_getElem, getLsbD_packFlags fits inside]

/-- The bits above the listed flags are read back as they were sent. -/
@[simp] theorem unlistedBits_packFlags {w n m : ℕ} {listed : List Bool} (len : listed.length = n) (fits : n + m ≤ w)
    (unlisted : BitVec m) : unlistedBits n m (packFlags w listed unlisted) = unlisted := by
  subst len
  rw [unlistedBits, toNat_packFlags fits, Nat.mul_add_div (by positivity),
    Nat.div_eq_of_lt (Machine.bitsToNat_lt listed), add_zero, BitVec.ofNat_toNat, BitVec.setWidth_eq]

/-- A mask of sixteen flags is read back bit by bit. -/
@[simp] theorem maskBits_packFlags {listed : List Bool} (len : listed.length = 16) :
    maskBits (packFlags 16 listed (0#0)) = listed := by
  refine List.ext_getElem (by simp [maskBits, len]) fun i _ inside => ?_
  simp only [maskBits, List.getElem_map, List.getElem_range]
  rw [getLsbD_packFlags (by omega) inside, List.getD_eq_getElem _ _ inside]

/-- The items of a masked list are read back where the mask tells their presence. -/
theorem readMasked_putMasked (items : List (Option Byte)) (rest : List Byte) :
    readMasked (items.map Option.isSome) (putMasked items ++ rest) = some (items, rest) := by
  induction items with
  | nil => rfl
  | cons item items ih =>
    have step := congrArg (Option.map fun r => (item :: r.1, r.2)) ih
    cases item <;> exact step

section
variable {α : Type} {items : List (Option Byte)} {mask : BitVec 16}

theorem readMasked_bind (flags : maskBits mask = items.map Option.isSome) (rest : List Byte)
    (k : List (Option Byte) × List Byte → Option α) :
    (readMasked (maskBits mask) (putMasked items ++ rest) >>= k) = k (items, rest) := by
  rw [flags, readMasked_putMasked]
  rfl

theorem readMasked_bind_nil (flags : maskBits mask = items.map Option.isSome)
    (k : List (Option Byte) × List Byte → Option α) :
    (readMasked (maskBits mask) (putMasked items) >>= k) = k (items, []) := by
  rw [← List.append_nil (putMasked items), readMasked_bind flags]

end

theorem putMasked_length_le (items : List (Option Byte)) : (putMasked items).length ≤ items.length :=
  List.length_filterMap_le id items

/-! ### Payloads read back as their requests (R178 to R180) -/

/-- A request is carried by a code and a payload that fit a frame and are read back as the request. -/
def Carried (i : Instr) : Prop :=
  ∃ code payload, encodePayload i = some (code, payload) ∧ payload.length ≤ Config.maxPayload ∧
    parsePayload code payload = .request i

/-- No request has the code 00h, which begins a fetch (R166, R178). -/
theorem code_ne_zero {i : Instr} {code : Byte} {payload : List Byte} (parsed : parsePayload code payload = .request i) :
    code ≠ 0 := by
  rintro rfl
  cases parsed

/-- A layout that takes the whole payload reads the request back (R163 check 2). -/
theorem Carried.of_layout {i : Instr} {code : Byte} {payload : List Byte}
    (layout : List Byte → Option (Instr × List Byte)) (encoded : encodePayload i = some (code, payload))
    (short : payload.length ≤ Config.maxPayload) (parsed : parsePayload code payload = whole (layout payload))
    (taken : layout payload = some (i, [])) : Carried i :=
  ⟨code, payload, encoded, short, by rw [parsed, taken]; rfl⟩

theorem carried_setChannel (q : SetChannelReq) : Carried (.setChannel q) := by
  refine .of_layout parseSetChannel rfl ?_ rfl ?_
  · simp only [List.length_append, putField_length]
    grind [putOpt_length_le, Config.maxPayload]
  · simp [parseSetChannel, ↓readField_bind, ↓readOpt_bind, ↓readOpt_bind_nil]

theorem carried_setQuadrature (q : SetQuadratureReq) : Carried (.setQuadrature q) := by
  refine .of_layout parseSetQuadrature rfl ?_ rfl ?_
  · grind [putField_length, Config.maxPayload]
  · simp [parseSetQuadrature, ↓readField_bind, ↓readField_bind_nil]

theorem carried_setMonitor (q : SetMonitorReq) : Carried (.setMonitor q) := by
  refine .of_layout parseSetMonitor rfl ?_ rfl ?_
  · simp only [List.length_append, putField_length]
    grind [putOpt_length_le, Config.maxPayload]
  · simp [parseSetMonitor, ↓readField_bind, ↓readOpt_bind, ↓readOpt_bind_nil]

theorem carried_setCompensation (q : SetCompensationReq) : Carried (.setCompensation q) := by
  refine .of_layout parseSetCompensation rfl ?_ rfl ?_
  · simp only [List.length_append, putField_length]
    grind [putOpt_length_le, Config.maxPayload]
  · simp [parseSetCompensation, ↓readField_bind, ↓readOpt_bind, ↓readOpt_bind_nil]

theorem carried_setDetector (q : SetDetectorReq) : Carried (.setDetector q) := by
  refine .of_layout parseSetDetector rfl ?_ rfl ?_
  · simp only [List.length_append, putField_length]
    grind [putOpt_length_le, Config.maxPayload]
  · simp [parseSetDetector, ↓readField_bind, ↓readOpt_bind, ↓readOpt_bind_nil]

theorem carried_setTraverse (q : SetTraverseReq) : Carried (.setTraverse q) := by
  refine .of_layout parseSetTraverse rfl ?_ rfl ?_
  · simp only [List.length_append, putField_length]
    grind [putOpt_length_le, Config.maxPayload]
  · simp [parseSetTraverse, ↓readField_bind, ↓readOpt_bind, ↓readOpt_bind_nil]

theorem carried_setAttention {q : SetAttentionReq} (levels : q.levels.length = 16) (actions : q.actions.length = 16) :
    Carried (.setAttention q) := by
  refine .of_layout parseSetAttention rfl ?_ rfl ?_
  · grind [putOpt_length_le, putField_length, putMasked_length_le, Config.maxPayload]
  · simp [parseSetAttention, ↓readField_bind, ↓readOpt_bind, ↓readMasked_bind, ↓readMasked_bind_nil, levels, actions]

theorem carried_putEnvironment (q : PutEnvironmentReq) : Carried (.putEnvironment q) := by
  refine .of_layout parsePutEnvironment rfl ?_ rfl ?_
  · simp only [List.length_append, putField_length]
    grind [putOpt_length_le, Config.maxPayload]
  · simp [parsePutEnvironment, ↓readField_bind, ↓readOpt_bind, ↓readOpt_bind_nil]

theorem carried_anchorTracker (nu : Option (BitVec 32)) (unlisted : BitVec 7) : Carried (.anchorTracker nu unlisted) := by
  refine .of_layout parseAnchorTracker rfl ?_ rfl ?_
  · simp only [List.length_append, putField_length]
    grind [putOpt_length_le, Config.maxPayload]
  · simp [parseAnchorTracker, ↓readField_bind, ↓readOpt_bind_nil]

theorem carried_insertRecord (q : InsertReq) : Carried (.insertRecord q) := by
  refine .of_layout parseInsertRecord rfl ?_ rfl ?_
  · grind [putField_length, Config.maxPayload]
  · simp [parseInsertRecord, ↓readField_bind, ↓readField_bind_nil]

theorem carried_changeRecord (q : ChangeReq) : Carried (.changeRecord q) := by
  refine .of_layout parseChangeRecord rfl ?_ rfl ?_
  · simp only [List.length_append, putField_length]
    grind [putOpt_length_le, Config.maxPayload]
  · simp [parseChangeRecord, ↓readField_bind, ↓readOpt_bind, ↓readOpt_bind_nil]

/-- A set bit 0 announces the label. -/
theorem carried_clearResults (label : BitVec 16) (unlisted : BitVec 7) : Carried (.clearResults label unlisted) := by
  refine .of_layout parseClearResults rfl ?_ rfl ?_
  · grind [putField_length, Config.maxPayload]
  · change parseClearResults (_ ++ putOpt 2 (some label)) = _
    simp [parseClearResults, ↓readField_bind, ↓readOpt_bind_nil]

/-- A clear bit 0 is the mark ALL. -/
theorem carried_clearResultsAll (unlisted : BitVec 7) : Carried (.clearResultsAll unlisted) := by
  refine .of_layout parseClearResults rfl ?_ rfl ?_
  · grind [putField_length, Config.maxPayload]
  · simp [parseClearResults, ↓readField_bind_nil, readOpt]

/-- A payload of one field. -/
theorem carried_one {n w : ℕ} (mk : BitVec w → Instr) {code : Byte} {v : BitVec w}
    (encoded : encodePayload (mk v) = some (code, putField n v))
    (parsed : ∀ payload, parsePayload code payload = whole (parseOne n w mk payload))
    (fits : w ≤ 8 * n := by decide) (short : n ≤ Config.maxPayload := by decide) :
    Carried (mk v) :=
  .of_layout (parseOne n w mk) encoded ((putField_length n v).trans_le short) (parsed _) (by
    rw [parseOne, ← List.append_nil (putField n v), readField_putField fits]
    rfl)

/-- A payload of two fields. -/
theorem carried_two {n w n' w' : ℕ} (mk : BitVec w → BitVec w' → Instr) {code : Byte} {a : BitVec w} {b : BitVec w'}
    (encoded : encodePayload (mk a b) = some (code, putField n a ++ putField n' b))
    (parsed : ∀ payload, parsePayload code payload = whole (parseTwo n w n' w' mk payload))
    (fits : w ≤ 8 * n := by decide) (fits' : w' ≤ 8 * n' := by decide)
    (short : n + n' ≤ Config.maxPayload := by decide) : Carried (mk a b) :=
  .of_layout (parseTwo n w n' w' mk) encoded
    (by rwa [List.length_append, putField_length, putField_length]) (parsed _)
    (by simp [parseTwo, ↓readField_bind, ↓readField_bind_nil, fits, fits'])

/-- A request without fields. -/
theorem carried_bare {i : Instr} {code : Byte} (encoded : encodePayload i = some (code, []))
    (parsed : parsePayload code [] = .request i) : Carried i :=
  ⟨code, [], encoded, Nat.zero_le _, parsed⟩

/-- Every well-formed request is carried by a payload. -/
theorem carried_of_request {i : Instr} (request : i.isRequest = true) (formed : i.wellFormed = true) : Carried i := by
  cases i with
  | setChannel q => exact carried_setChannel q
  | setQuadrature q => exact carried_setQuadrature q
  | setMonitor q => exact carried_setMonitor q
  | setCompensation q => exact carried_setCompensation q
  | setDetector q => exact carried_setDetector q
  | setTraverse q => exact carried_setTraverse q
  | setAttention q =>
    obtain ⟨levels, actions⟩ := (Bool.and_eq_true_iff.mp formed).imp of_decide_eq_true of_decide_eq_true
    exact carried_setAttention levels actions
  | putEnvironment q => exact carried_putEnvironment q
  | anchorTracker nu unlisted => exact carried_anchorTracker nu unlisted
  | insertRecord q => exact carried_insertRecord q
  | changeRecord q => exact carried_changeRecord q
  | clearResults label unlisted => exact carried_clearResults label unlisted
  | clearResultsAll unlisted => exact carried_clearResultsAll unlisted
  | channelOn ch => exact carried_one .channelOn rfl fun _ => rfl
  | channelOff ch => exact carried_one .channelOff rfl fun _ => rfl
  | startPlan count => exact carried_one .startPlan rfl fun _ => rfl
  | retireRecord label => exact carried_one .retireRecord rfl fun _ => rfl
  | readRecord label => exact carried_one .readRecord rfl fun _ => rfl
  | findPosition p => exact carried_one .findPosition rfl fun _ => rfl
  | seek p => exact carried_one .seek rfl fun _ => rfl
  | readNext filter => exact carried_one .readNext rfl fun _ => rfl
  | readResult label => exact carried_one .readResult rfl fun _ => rfl
  | readChannel ch => exact carried_one .readChannel rfl fun _ => rfl
  | acknowledge set => exact carried_one .acknowledge rfl fun _ => rfl
  | preset ch value => exact carried_two .preset rfl fun _ => rfl
  | setRecordState label state => exact carried_two .setRecordState rfl fun _ => rfl
  | probe ch k => exact carried_two .probe rfl fun _ => rfl
  | readInterval a b => exact carried_two .readInterval rfl fun _ => rfl
  | home | stopPlan | endPass | readCompensation | readTraverse | readProbe | readAttention | resetPart =>
    exact carried_bare rfl rfl
  | _ => cases request

/-! ### Frames read back as their payloads (R160, R162) -/

section
variable {code : Byte} {payload : List Byte}

/-- A frame of a payload of at most 96 bytes is kept whole (R160). -/
theorem frameOf_frameBytes (short : payload.length ≤ Config.maxPayload) :
    frameOf (frameBytes code payload) 0 = ⟨frameBytes code payload, payload.length + 3, 0⟩ := by
  have len : (frameBytes code payload).length = payload.length + 3 := by simp [frameBytes]
  have kept : (frameBytes code payload).length ≤ Config.keptBytes := len.trans_le (Nat.add_le_add_right short 3)
  rw [frameOf, List.take_of_length_le kept, len]

/-- What the port reads from a frame that it keeps whole. -/
theorem frame_fields (short : payload.length ≤ Config.maxPayload) :
    let f := frameOf (frameBytes code payload) 0
    f.code = code ∧ f.lengthByte = payload.length ∧ f.payload = payload ∧
      f.crcByte = crc (code :: BitVec.ofNat 8 payload.length :: payload) := by
  rw [frameOf_frameBytes short]
  have length : (⟨frameBytes code payload, payload.length + 3, 0⟩ : Frame).lengthByte = payload.length :=
    Nat.mod_eq_of_lt (short.trans_lt (by decide))
  refine ⟨rfl, length, ?_, ?_⟩
  · rw [Frame.payload, length]
    exact List.take_left' rfl
  · rw [Frame.crcByte, length]
    simp [frameBytes]

theorem badLength_frameBytes (short : payload.length ≤ Config.maxPayload) :
    (frameOf (frameBytes code payload) 0).badLength = false := by
  obtain ⟨-, length, -, -⟩ := frame_fields (code := code) short
  refine Machine.badLength_eq_false ?_
  rw [length, frameOf_frameBytes short]
  exact ⟨rfl, Nat.le_add_left 3 _, short, rfl⟩

theorem badCrc_frameBytes (short : payload.length ≤ Config.maxPayload) :
    (frameOf (frameBytes code payload) 0).badCrc = false := by
  obtain ⟨code', length, payload', sum⟩ := frame_fields (code := code) short
  rw [Bool.eq_false_iff]
  refine fun bad => Machine.badCrc_iff.mp bad ?_
  rw [code', length, payload', sum]

/-- A frame that the encoder makes is judged by its code and its payload (R162, R163). -/
theorem completionOf_frameBytes {i : Instr} (short : payload.length ≤ Config.maxPayload)
    (parsed : parsePayload code payload = .request i) : completionOf (frameOf (frameBytes code payload) 0) = i := by
  obtain ⟨code', -, payload', -⟩ := frame_fields (code := code) short
  rw [Machine.completionOf_of_sound (badLength_frameBytes short) (badCrc_frameBytes short), code', payload', parsed,
    Machine.completionOfParsed]

end

end Sys2Proof

namespace Sys2Proof.Machine

/-- Settles O10: every request is carried by a payload, and the payload's frame passes the checks; a port that holds no request
accepts it. -/
theorem framesCarryTheirRequests : Obligations.FramesCarryTheirRequests := by
  refine ⟨fun i request formed => ?_, fun i s request formed other high footing empty => ?_⟩ <;>
    obtain ⟨code, payload, encoded, short, parsed⟩ := carried_of_request request formed <;>
    have completes := completionOf_frameBytes short parsed
  · exact ⟨_, by rw [encodeFrame, encoded]; rfl, completes⟩
  · refine ⟨frameBytes code payload, _, exec_requestFrame_accepted (code_ne_zero parsed) _ (by norm_num) high footing
      (.inl empty) (completes.trans_ne other), ?_⟩
    exact State.awaits_iff.mpr ⟨_, rfl, completes⟩

end Sys2Proof.Machine

namespace Sys2Proof.Machine

/-! ### Numbers read back from their fields (R177) -/

theorem ofLE_uField {n v : ℕ} (fits : v < 256 ^ n) : ofLE (uField n v) = v := by
  rw [uField, ofLE_toLE, Nat.mod_eq_of_lt fits]

/-- The bits of a signed field are the number in two's complement: its balanced residue. -/
theorem toInt_ofLE_sField (n : ℕ) (v : ℤ) :
    (BitVec.ofNat (8 * n) (ofLE (sField n v))).toInt = v.bmod (2 ^ (8 * n)) := by
  have modulus : (2 : ℕ) ^ (8 * n) = 256 ^ n := pow_mul 2 8 n
  have positive : (0 : ℤ) < (256 ^ n : ℕ) := by positivity
  have residue : (((v % (256 ^ n : ℕ)).toNat : ℕ) : ℤ) = v % (256 ^ n : ℕ) :=
    Int.toNat_of_nonneg (Int.emod_nonneg _ positive.ne')
  rw [sField, ofLE_toLE, BitVec.toInt_eq_toNat_bmod, BitVec.toNat_ofNat, modulus, Nat.mod_mod, Int.natCast_mod, residue,
    Int.emod_emod, Int.emod_bmod]

theorem toInt_ofLE_sField_of_bounds {n : ℕ} {v : ℤ} (low : -(2 ^ (8 * n - 1)) ≤ v) (high : v < 2 ^ (8 * n - 1))
    (pos : 0 < n) : (BitVec.ofNat (8 * n) (ofLE (sField n v))).toInt = v := by
  have halves : 2 ^ (8 * n) = 2 * 2 ^ (8 * n - 1) := by rw [← pow_succ', Nat.sub_add_cancel (by omega)]
  have cast : ((2 ^ (8 * n - 1) : ℕ) : ℤ) = 2 ^ (8 * n - 1) := by norm_cast
  rw [toInt_ofLE_sField]
  exact Int.bmod_eq_of_le (by omega) (by omega)

/-! ### The parts that the record and the result image share (R181) -/

/-- The number that R181 gives a record's state. -/
def RecState.number : RecState → ℤ
  | .armed => 0
  | .paused => 1
  | .suspect => 2
  | .complete => 3

/-- The number that R181 gives a direction. -/
def Dir.number : Dir → ℤ
  | .fwd => 0
  | .bwd => 1

@[simp] theorem RecState.code_cast (st : RecState) : (st.code : ℤ) = st.number := by cases st <;> rfl

@[simp] theorem Dir.code_cast (d : Dir) : (d.code : ℤ) = d.number := by cases d <;> rfl

/-- The last capture's nine bytes at an offset. -/
def CaptureAt (image : List Byte) (start : ℕ) (last : Option LastCapture) : Prop :=
  Holds image start 4 ((last.map LastCapture.dev).getD 0) ∧
    Holds image (start + 4) 4 ((last.map fun l => (l.pass : ℤ)).getD 0) ∧
    Holds image (start + 8) 1 ((last.map fun l => l.dir.number).getD 0)

/-- The six reject counters at an offset. -/
def RejectsAt (image : List Byte) (start : ℕ) (c : Rejects) : Prop :=
  Holds image start 1 c.miss ∧ Holds image (start + 1) 1 c.double ∧ Holds image (start + 2) 1 c.reversal ∧
    Holds image (start + 3) 1 c.width ∧ Holds image (start + 4) 1 c.coast ∧ Holds image (start + 5) 1 c.interrupted

/-- The extremes of an accumulator at an offset. -/
def ExtremesAt (image : List Byte) (start : ℕ) (ext : Option MinMax) : Prop :=
  Holds image start 4 ((ext.map MinMax.min).getD 0) ∧ Holds image (start + 4) 4 ((ext.map MinMax.max).getD 0)

/-- An accumulator of the record image at an offset. -/
def AccAt (image : List Byte) (start : ℕ) (acc : Acc) : Prop :=
  Holds image start 2 acc.n ∧ Holds image (start + 2) 6 acc.sum ∧
    (0 ≤ acc.sumSq → Holds image (start + 8) 9 acc.sumSq) ∧ ExtremesAt image (start + 17) acc.ext

/-- A direction of the result image at an offset. -/
def DirectionAt (image : List Byte) (start quota : ℕ) (acc : Acc) : Prop :=
  Holds image start 2 quota ∧ Holds image (start + 2) 2 acc.n ∧ Holds image (start + 4) 4 (acc.mean.getD 0) ∧
    Holds image (start + 8) 4 (acc.deviation.getD 0) ∧ ExtremesAt image (start + 12) acc.ext

theorem captureAt_lastBytes (last : Option LastCapture) : CaptureAt (lastBytes last) 0 last := by
  cases last with
  | none => simp [CaptureAt, lastBytes, -List.reduceReplicate]
  | some l => simp [CaptureAt, lastBytes]

theorem rejectsAt_bytes (c : Rejects) : RejectsAt c.bytes 0 c := by simp [RejectsAt, Rejects.bytes]

theorem accAt_bytes (acc : Acc) : AccAt acc.bytes 0 acc := by
  simp +contextual [AccAt, ExtremesAt, Acc.bytes]

theorem directionAt_directionBytes (quota : ℕ) (acc : Acc) : DirectionAt (directionBytes quota acc) 0 quota acc := by
  simp [DirectionAt, ExtremesAt, directionBytes]

theorem State.occupied_iff (s : State) (r : LineRec) :
    s.occupied r = true ↔ ∃ o, s.eng.occ = some o ∧ o.label = r.label := by
  cases h : s.eng.occ <;> simp [State.occupied, h]

/-! ### The images of a record (R181) -/

theorem recordImage_fields (s : State) (r : LineRec) (inside : Bool) :
    let image := recordImage s r inside
    (Holds image 0 2 r.label ∧ Holds image 2 6 r.n ∧ Holds image 8 4 r.w ∧ Holds image 12 2 r.quotaF ∧
      Holds image 14 2 r.quotaB ∧ Holds image 16 1 r.state.number) ∧
    (∃ flags, 0 ≤ flags ∧ flags < 2 ^ 5 ∧ Holds image 17 1 flags ∧
      HasBit (∃ o, s.eng.occ = some o ∧ o.label = r.label) 0 flags ∧ HasBit (r.last ≠ none) 1 flags ∧
      HasBit (r.accF.ext ≠ none) 2 flags ∧ HasBit (r.accB.ext ≠ none) 3 flags ∧ HasBit (inside = true) 4 flags) ∧
    Holds image 18 1 r.misses ∧ RejectsAt image 19 r.rejects ∧ AccAt image 25 r.accF ∧ AccAt image 50 r.accB ∧
    CaptureAt image 75 r.last := by
  intro image
  simp only [image, recordImage]
  refine ⟨?_, exists_flags (bs := [s.occupied r, r.last.isSome, r.accF.ext.isSome, r.accB.ext.isSome, inside])
    rfl ?_ ?_, ?_, ?_, ?_, ?_, ?_⟩
  · simp
  · simp
  · simp [Option.isSome_iff_ne_none, State.occupied_iff]
  · simp
  · simpa [RejectsAt] using rejectsAt_bytes r.rejects
  · simpa [AccAt, ExtremesAt] using accAt_bytes r.accF
  · simpa [AccAt, ExtremesAt] using accAt_bytes r.accB
  · simpa [CaptureAt] using captureAt_lastBytes r.last

theorem resultImage_fields (s : State) (r : LineRec) :
    let image := resultImage s r
    (Holds image 0 2 r.label ∧ Holds image 2 1 r.state.number) ∧
    (∃ flags, 0 ≤ flags ∧ flags < 2 ^ 10 ∧ Holds image 3 2 flags ∧
      HasBit (∃ o, s.eng.occ = some o ∧ o.label = r.label) 0 flags ∧ HasBit (r.accF.mean ≠ none) 1 flags ∧
      HasBit (r.accF.deviation ≠ none) 2 flags ∧ HasBit (r.accF.ext ≠ none) 3 flags ∧
      HasBit (r.accB.mean ≠ none) 4 flags ∧ HasBit (r.accB.deviation ≠ none) 5 flags ∧
      HasBit (r.accB.ext ≠ none) 6 flags ∧ HasBit (r.centre ≠ none) 7 flags ∧ HasBit (r.bias ≠ none) 8 flags ∧
      HasBit (r.last ≠ none) 9 flags) ∧
    DirectionAt image 5 r.quotaF r.accF ∧ DirectionAt image 25 r.quotaB r.accB ∧
    Holds image 45 4 (r.centre.getD 0) ∧ Holds image 49 4 (r.bias.getD 0) ∧ CaptureAt image 53 r.last ∧
    Holds image 62 1 r.misses ∧ RejectsAt image 63 r.rejects := by
  intro image
  simp only [image, resultImage]
  refine ⟨?_, exists_flags (bs := [s.occupied r, r.accF.mean.isSome, r.accF.deviation.isSome, r.accF.ext.isSome,
    r.accB.mean.isSome, r.accB.deviation.isSome, r.accB.ext.isSome, r.centre.isSome, r.bias.isSome, r.last.isSome])
    rfl ?_ ?_, ?_, ?_, ?_, ?_, ?_, ?_, ?_⟩
  · simp
  · simp
  · simp [Option.isSome_iff_ne_none, State.occupied_iff]
  · simpa [DirectionAt, ExtremesAt] using directionAt_directionBytes r.quotaF r.accF
  · simpa [DirectionAt, ExtremesAt] using directionAt_directionBytes r.quotaB r.accB
  · simp
  · simp
  · simpa [CaptureAt] using captureAt_lastBytes r.last
  · simp
  · simpa [RejectsAt] using rejectsAt_bytes r.rejects

theorem intervalImage_fields (a b : LineRec) :
    let image := intervalImage a b
    Holds image 0 2 a.label ∧ Holds image 2 2 b.label ∧ Holds image 4 2 a.accF.n ∧ Holds image 6 2 a.accB.n ∧
      Holds image 8 2 b.accF.n ∧ Holds image 10 2 b.accB.n ∧
      Holds image 12 1 (if interval a b = none then 0 else 1) ∧ Holds image 13 8 ((interval a b).getD 0) := by
  intro image
  have flag : flagValue [(interval a b).isSome] = if interval a b = none then 0 else 1 := by
    cases interval a b <;> rfl
  simp [image, intervalImage, ← flag]

/-- Settles O12: the images are read off their parts, each of which holds its fields from its first byte on. -/
theorem numbersAndImagesHaveTheirWidths : Obligations.NumbersAndImagesHaveTheirWidths := by
  refine ⟨⟨fun n v fits => ⟨uField_length n v, ofLE_uField fits⟩, fun n v low high pos =>
    ⟨sField_length n v, toInt_ofLE_sField_of_bounds low high pos⟩⟩, fun s c a b inside =>
    ⟨recordImage_length s a inside, resultImage_length s a, intervalImage_length a b, channelImage_length s c,
      compensationImage_length s, traverseImage_length s, probeImage_length s.probe, attentionImage_length s⟩, ?_⟩
  exact ⟨recordImage_fields, resultImage_fields, intervalImage_fields⟩

end Sys2Proof.Machine

namespace Sys2Proof.Machine

/-! ### The front of the queue (chapter 9) -/

/-- Settles O1: a queue with a front command is the second case of `step`, and taking that command off writes the queue alone, so
the earlier queue leaves no trace in the part that `exec` runs on. -/
theorem stepRunsTheFrontCommand : Obligations.StepRunsTheFrontCommand := fun _ _ _ => rfl

end Sys2Proof.Machine
